-- ==== Sys2Proof/Word.lean ====
section
/-! DEFINITION. The widths of the machine (00_scope.md R6): bytes, 16-bit words, and the plain-data shape of a
byte store. Everything computed on them stands in Machine/Bits.lean and Machine/Memory.lean. -/

namespace Sys2Proof

/-- The addressable unit, and the width of A, B, DP and CC (R6). -/
abbrev Byte := BitVec 8

/-- An address, and the width of X, Y, U, S and PC (R6). -/
abbrev Word := BitVec 16

/-- A byte store (a RAM, a register shadow, a ROM image): the listed cells, in rising order of address; every address
not listed reads as `Memory.unlisted` (Machine/Memory.lean). -/
abbrev Memory := List Host.Cell

/-- A byte array of a fixed length, as the host hands a ROM image over (00_scope.md R7, 70_reset_and_hazards.md R496): its
length, and the bytes that are not what an unlisted address reads as. -/
structure Image where
  len : Nat
  cells : Memory
deriving DecidableEq, Repr

end Sys2Proof
end

