-- ==== Sys2Proof/Config.lean ====
section
/-! DEFINITION. What an implementation fixes: the configuration arguments of 00_scope.md R7 as one plain record that
every State carries (so that a statement about every state holds for every configuration, R7 "claims name the
configuration"), and the free values, opaque constants of which nothing can be proved (93_implementation_defined.md
U1, U2, U17). -/

namespace Sys2Proof

/-- The two boards, each with one 6809 core (R6). -/
inductive Board where
  | main
  | sound
deriving DecidableEq, Repr

/-- `ZEROCROSS_MODE` (60_exceptions.md R440). -/
inductive ZeroCrossMode where
  | toggle
  | setClearOnRead
deriving DecidableEq, Repr

/-- `RESET_REGS` (70_reset_and_hazards.md R481). Every field is free, DP and the masks of CC too: R7, R50 and R481 make them all
the parameter, though U6 and D3 let a program rely on DP = 0x00 and F = I = 1 (DESIGN CHOICE, log entry 36). -/
structure ResetRegs where
  a : Byte
  b : Byte
  x : Word
  y : Word
  u : Word
  s : Word
  dp : Byte
  cc : Byte
deriving DecidableEq, Repr

/-- `CYCLES`, the cycle-count table of 30_encoding.md R150, as data: the `cycles` column of R140 to R142 by opcode (the
row's `match` number), the addend of R151 by postbyte, and the other counts of R150. -/
structure CycleTable where
  /-- opcode (with its page byte, as in `0x10AE`) and its `cycles` column -/
  base : List (Nat × Nat)
  /-- the addend of each of the 256 postbytes, in order (R151) -/
  postbyte : List Nat
  /-- `PSHS/PULS/PSHU/PULU`: per byte transferred -/
  perByte : Nat
  /-- long conditional branch: added when taken -/
  longTaken : Nat
  /-- `RTI`: added when the pulled E is 1 -/
  rtiExtra : Nat
  /-- IRQ service (60_exceptions.md R412) -/
  irq : Nat
  /-- FIRQ service (R413) -/
  firq : Nat
  /-- NMI service (R414) -/
  nmi : Nat
  /-- resume from `CWAI` (R421) -/
  resume : Nat
  /-- idle wait step (R421) -/
  idle : Nat
deriving DecidableEq, Repr

/-- The arguments of R7 that exist once per board. -/
structure BoardCfg where
  /-- `RAM_END` -/
  ramEnd : Nat
  /-- `HW_END` -/
  hwEnd : Nat
  /-- `BANK_END` -/
  bankEnd : Nat
  ramSize : Nat
  /-- the initial RAM image (R489) -/
  ramImage : Memory
  fixedRom : Image
  bankedRom : Image
  /-- `BANK_SELECT_ADDR` -/
  bankSelect : Nat
  /-- `bankDecode`, its answer for each of the 256 bytes in order (20_memory.md R80) -/
  bankDecode : List (Option Nat)
deriving DecidableEq, Repr

/-- The configuration arguments of R7. -/
structure Cfg where
  main : BoardCfg
  sound : BoardCfg
  /-- `WATCHDOG_SERVICE_ADDR` -/
  watchdogAddr : Nat
  /-- `ZEROCROSS_STATUS_ADDR` -/
  zeroCrossAddr : Nat
  /-- `MAIN_SOUND_DATA_ADDR` -/
  soundDataAddr : Nat
  /-- `SOUND_LATCH_READ_ADDR` -/
  latchReadAddr : Nat
  /-- `WATCHDOG_RELOAD_TICKS` -/
  watchdogReload : Nat
  /-- `ZEROCROSS_PERIOD_TICKS` -/
  zeroCrossPeriod : Nat
  /-- `ZEROCROSS_RAISES_IRQ` -/
  zeroCrossRaisesIrq : Bool
  /-- `ZEROCROSS_FLAG_MASK` -/
  zeroCrossMask : Byte
  zeroCrossMode : ZeroCrossMode
  /-- `IRQ_PERIOD_TICKS` -/
  irqPeriod : Nat
  /-- `SOUND_CLK_NUM` -/
  soundClkNum : Nat
  /-- `SOUND_CLK_DEN` -/
  soundClkDen : Nat
  /-- `FIRQ_HACK_TICKS` -/
  firqHackTicks : Nat
  cycles : CycleTable
  resetRegs : ResetRegs
  /-- `HAS_NMI` -/
  hasNmi : Bool
  /-- the registers of the windows that are wired to devices behind the device port (20_memory.md R84): an access to any
  other address reaches no device (log entry 10) -/
  devPorts : List (Board × Nat)
deriving DecidableEq, Repr

/-- The arguments of one board. -/
def Cfg.board (c : Cfg) : Board → BoardCfg
  | .main => c.main
  | .sound => c.sound

/-- `WINDOW_SIZE` (R7, derived). -/
def BoardCfg.window (c : BoardCfg) : Nat := c.bankEnd - c.hwEnd

/-- `length(bankedRom) / WINDOW_SIZE`, the number of banks. -/
def BoardCfg.banks (c : BoardCfg) : Nat := c.bankedRom.len / c.window

/-- The operations after which the architecture leaves H undefined (93_implementation_defined.md U1). -/
inductive HOp where
  | sub
  | sbc
  | cmp
  | neg
  | asl
  | asr
deriving DecidableEq, Repr

/-- One call made to the environment behind the device port (20_memory.md R84, 60_exceptions.md R470,
70_reset_and_hazards.md R499). -/
inductive DevEvent where
  /-- `devRead(b, off)` -/
  | read (b : Board) (off : Nat)
  /-- `devWrite(b, off, v)` -/
  | write (b : Board) (off : Nat) (v : Byte)
  /-- `fm.advance(cycles)` -/
  | fmAdvance (cycles : Nat)
  /-- `setDirectInput(row, byte)`; the row has no width either (DESIGN CHOICE, log entry 35) -/
  | directInput (row : Nat) (v : Byte)
  /-- `setCabinetInput(bitmask)`; the spec gives the bitmask no width, and the model takes any number (DESIGN CHOICE, log
  entry 35) -/
  | cabinetInput (bitmask : Nat)
deriving DecidableEq, Repr

/-- An input from outside the machine, which only the answers to later reads depend on (70_reset_and_hazards.md R499). -/
def DevEvent.isInput : DevEvent → Bool
  | .directInput _ _ => true
  | .cabinetInput _ => true
  | _ => false

/-- What a device may do to the machine as a side effect of a call (R84, R435, R456). -/
inductive DevEffect where
  | irq (b : Board)
  | firq (b : Board)
  | periodicIrqEnable (on : Bool)
deriving DecidableEq, Repr

/-- U1, FREE VALUE: the H flag after an operation that leaves it undefined, `undefH(op, a, b, cin, h_old)`. -/
opaque Config.undefH : HOp → Byte → Byte → Bool → Bool → Bool

/-- U2, FREE VALUE: the V flag after `DAA`, `undefV_DAA(a_old, cc_old)`. -/
opaque Config.undefVDaa : Byte → Byte → Bool

/-- U17, FREE VALUE: what a wired device answers to a read, as a function of the calls made to the environment and the
inputs given to it so far (newest first, this read included) and of the flag `latchAvail` of the sound latch, which the port
may expose in a status register (60_exceptions.md R453): `none` when no device handles it (R84, R86). -/
opaque Config.devRead : List DevEvent → Bool → Board → Nat → Option Byte

/-- U17, FREE VALUE: whether a wired device handles a write (R84, R86), as a function of the calls made so far; the inputs
are not among them (70_reset_and_hazards.md R499). -/
opaque Config.devWrite : List DevEvent → Board → Nat → Byte → Bool

/-- U17, FREE VALUE: the interrupts the devices assert in answer to the newest call (R84), as a function of the calls made so
far; the inputs are not among them (R499). -/
opaque Config.devEffects : List DevEvent → List DevEffect

end Sys2Proof
end

