-- ==== Sys2Proof/Machine/Memory.lean ====
section
/-! DEFINITION. A byte store as plain data in one canonical form: addresses strictly rising, and no cell equal to
what an unlisted address reads as. RAM, register shadows and ROM images are all of this type. -/

namespace Sys2Proof

/-- What an address with no cell reads as: 0x00. For the register shadow this is the power-on value of
70_reset_and_hazards.md R489; for a RAM at power-on and for a ROM image it is how the image is written down
(DESIGN CHOICE, log entries 5, 6 and 20). -/
def Memory.unlisted : Byte := 0x00#8

/-- The byte at an address. -/
def Memory.read : Memory → Nat → Byte
  | [], _ => Memory.unlisted
  | (k, v) :: m, a => if k = a then v else Memory.read m a

/-- The store with the byte `v` at the address `a`. Writing what an unlisted address reads as removes the cell, so that
equal contents are equal data. -/
def Memory.write : Memory → Nat → Byte → Memory
  | [], a, v => if v = Memory.unlisted then [] else [(a, v)]
  | (k, w) :: m, a, v =>
    if a < k then (if v = Memory.unlisted then (k, w) :: m else (a, v) :: (k, w) :: m)
    else if a = k then (if v = Memory.unlisted then m else (a, v) :: m)
    else (k, w) :: Memory.write m a v

/-- The canonical form. -/
def Memory.wf : Memory → Bool
  | [] => true
  | (k, v) :: m => (v != Memory.unlisted) && m.all (fun c => decide (k < c.1)) && Memory.wf m

/-- Every listed cell stands below `n`. -/
def Memory.below (m : Memory) (n : Nat) : Bool := m.all (fun c => decide (c.1 < n))

/-- Bytes written at consecutive addresses from `a`, for building an image. -/
def Memory.writeList : Memory → Nat → List Byte → Memory
  | m, _, [] => m
  | m, a, v :: vs => Memory.writeList (Memory.write m a v) (a + 1) vs

/-- The byte at an index of an array. -/
def Image.read (m : Image) (a : Nat) : Byte := m.cells.read a

/-- The array with one byte replaced; its length stays. -/
def Image.write (m : Image) (a : Nat) (v : Byte) : Image := { m with cells := m.cells.write a v }

/-- The array's cells are canonical and inside it. -/
def Image.ok (m : Image) : Bool := m.cells.wf && m.cells.below m.len

/-- The array of `n` bytes 0x00 (DESIGN CHOICE for the images of State.reset, log entry 6). -/
def Image.blank (n : Nat) : Image := ⟨n, []⟩

/-- The array the host hands over as a sequence of bytes (70_reset_and_hazards.md R496). -/
def Image.ofBytes (bytes : List Byte) : Image := ⟨bytes.length, Memory.writeList [] 0 bytes⟩

end Sys2Proof
end

