-- ==== Sys2Proof/Machine/Defaults.lean ====
section
/-! DEFINITION. The default configuration: the cycle table of the MC6809 (30_encoding.md R140 to R142, R150, R151) and
the suggested defaults of 00_scope.md R7 (log entries 2 and 3). -/

namespace Sys2Proof.Config

/-- The `cycles` column, page 1, opcodes `00` to `0F` (30_encoding.md R140). -/
def cyclesPage1Row0 : List (Nat × Nat) :=
  [(0x00, 6), (0x03, 6), (0x04, 6), (0x06, 6), (0x07, 6), (0x08, 6), (0x09, 6), (0x0A, 6), (0x0C, 6), (0x0D, 6), (0x0E, 3), (0x0F, 6)]

/-- The `cycles` column, page 1, opcodes `10` to `1F` (30_encoding.md R140). -/
def cyclesPage1Row1 : List (Nat × Nat) :=
  [(0x12, 2), (0x13, 4), (0x16, 5), (0x17, 9), (0x19, 2), (0x1A, 3), (0x1C, 3), (0x1D, 2), (0x1E, 8), (0x1F, 6)]

/-- The `cycles` column, page 1, opcodes `20` to `2F` (30_encoding.md R140). -/
def cyclesPage1Row2 : List (Nat × Nat) :=
  [(0x20, 3), (0x21, 3), (0x22, 3), (0x23, 3), (0x24, 3), (0x25, 3), (0x26, 3), (0x27, 3), (0x28, 3), (0x29, 3), (0x2A, 3), (0x2B, 3), (0x2C, 3), (0x2D, 3), (0x2E, 3), (0x2F, 3)]

/-- The `cycles` column, page 1, opcodes `30` to `3F` (30_encoding.md R140). -/
def cyclesPage1Row3 : List (Nat × Nat) :=
  [(0x30, 4), (0x31, 4), (0x32, 4), (0x33, 4), (0x34, 5), (0x35, 5), (0x36, 5), (0x37, 5), (0x39, 5), (0x3A, 3), (0x3B, 6), (0x3C, 20), (0x3D, 11), (0x3F, 19)]

/-- The `cycles` column, page 1, opcodes `40` to `4F` (30_encoding.md R140). -/
def cyclesPage1Row4 : List (Nat × Nat) :=
  [(0x40, 2), (0x43, 2), (0x44, 2), (0x46, 2), (0x47, 2), (0x48, 2), (0x49, 2), (0x4A, 2), (0x4C, 2), (0x4D, 2), (0x4F, 2)]

/-- The `cycles` column, page 1, opcodes `50` to `5F` (30_encoding.md R140). -/
def cyclesPage1Row5 : List (Nat × Nat) :=
  [(0x50, 2), (0x53, 2), (0x54, 2), (0x56, 2), (0x57, 2), (0x58, 2), (0x59, 2), (0x5A, 2), (0x5C, 2), (0x5D, 2), (0x5F, 2)]

/-- The `cycles` column, page 1, opcodes `60` to `6F` (30_encoding.md R140). -/
def cyclesPage1Row6 : List (Nat × Nat) :=
  [(0x60, 6), (0x63, 6), (0x64, 6), (0x66, 6), (0x67, 6), (0x68, 6), (0x69, 6), (0x6A, 6), (0x6C, 6), (0x6D, 6), (0x6E, 3), (0x6F, 6)]

/-- The `cycles` column, page 1, opcodes `70` to `7F` (30_encoding.md R140). -/
def cyclesPage1Row7 : List (Nat × Nat) :=
  [(0x70, 7), (0x73, 7), (0x74, 7), (0x76, 7), (0x77, 7), (0x78, 7), (0x79, 7), (0x7A, 7), (0x7C, 7), (0x7D, 7), (0x7E, 4), (0x7F, 7)]

/-- The `cycles` column, page 1, opcodes `80` to `8F` (30_encoding.md R140). -/
def cyclesPage1Row8 : List (Nat × Nat) :=
  [(0x80, 2), (0x81, 2), (0x82, 2), (0x83, 4), (0x84, 2), (0x85, 2), (0x86, 2), (0x88, 2), (0x89, 2), (0x8A, 2), (0x8B, 2), (0x8C, 4), (0x8D, 7), (0x8E, 3)]

/-- The `cycles` column, page 1, opcodes `90` to `9F` (30_encoding.md R140). -/
def cyclesPage1Row9 : List (Nat × Nat) :=
  [(0x90, 4), (0x91, 4), (0x92, 4), (0x93, 6), (0x94, 4), (0x95, 4), (0x96, 4), (0x97, 4), (0x98, 4), (0x99, 4), (0x9A, 4), (0x9B, 4), (0x9C, 6), (0x9D, 7), (0x9E, 5), (0x9F, 5)]

/-- The `cycles` column, page 1, opcodes `A0` to `AF` (30_encoding.md R140). -/
def cyclesPage1RowA : List (Nat × Nat) :=
  [(0xA0, 4), (0xA1, 4), (0xA2, 4), (0xA3, 6), (0xA4, 4), (0xA5, 4), (0xA6, 4), (0xA7, 4), (0xA8, 4), (0xA9, 4), (0xAA, 4), (0xAB, 4), (0xAC, 6), (0xAD, 7), (0xAE, 5), (0xAF, 5)]

/-- The `cycles` column, page 1, opcodes `B0` to `BF` (30_encoding.md R140). -/
def cyclesPage1RowB : List (Nat × Nat) :=
  [(0xB0, 5), (0xB1, 5), (0xB2, 5), (0xB3, 7), (0xB4, 5), (0xB5, 5), (0xB6, 5), (0xB7, 5), (0xB8, 5), (0xB9, 5), (0xBA, 5), (0xBB, 5), (0xBC, 7), (0xBD, 8), (0xBE, 6), (0xBF, 6)]

/-- The `cycles` column, page 1, opcodes `C0` to `CF` (30_encoding.md R140). -/
def cyclesPage1RowC : List (Nat × Nat) :=
  [(0xC0, 2), (0xC1, 2), (0xC2, 2), (0xC3, 4), (0xC4, 2), (0xC5, 2), (0xC6, 2), (0xC8, 2), (0xC9, 2), (0xCA, 2), (0xCB, 2), (0xCC, 3), (0xCE, 3)]

/-- The `cycles` column, page 1, opcodes `D0` to `DF` (30_encoding.md R140). -/
def cyclesPage1RowD : List (Nat × Nat) :=
  [(0xD0, 4), (0xD1, 4), (0xD2, 4), (0xD3, 6), (0xD4, 4), (0xD5, 4), (0xD6, 4), (0xD7, 4), (0xD8, 4), (0xD9, 4), (0xDA, 4), (0xDB, 4), (0xDC, 5), (0xDD, 5), (0xDE, 5), (0xDF, 5)]

/-- The `cycles` column, page 1, opcodes `E0` to `EF` (30_encoding.md R140). -/
def cyclesPage1RowE : List (Nat × Nat) :=
  [(0xE0, 4), (0xE1, 4), (0xE2, 4), (0xE3, 6), (0xE4, 4), (0xE5, 4), (0xE6, 4), (0xE7, 4), (0xE8, 4), (0xE9, 4), (0xEA, 4), (0xEB, 4), (0xEC, 5), (0xED, 5), (0xEE, 5), (0xEF, 5)]

/-- The `cycles` column, page 1, opcodes `F0` to `FF` (30_encoding.md R140). -/
def cyclesPage1RowF : List (Nat × Nat) :=
  [(0xF0, 5), (0xF1, 5), (0xF2, 5), (0xF3, 7), (0xF4, 5), (0xF5, 5), (0xF6, 5), (0xF7, 5), (0xF8, 5), (0xF9, 5), (0xFA, 5), (0xFB, 5), (0xFC, 6), (0xFD, 6), (0xFE, 6), (0xFF, 6)]

/-- The `cycles` column, page 2, opcodes `20` to `2F` (30_encoding.md R141). -/
def cyclesPage2Row2 : List (Nat × Nat) :=
  [(0x1021, 5), (0x1022, 5), (0x1023, 5), (0x1024, 5), (0x1025, 5), (0x1026, 5), (0x1027, 5), (0x1028, 5), (0x1029, 5), (0x102A, 5), (0x102B, 5), (0x102C, 5), (0x102D, 5), (0x102E, 5), (0x102F, 5)]

/-- The `cycles` column, page 2, opcodes `30` to `3F` (30_encoding.md R141). -/
def cyclesPage2Row3 : List (Nat × Nat) :=
  [(0x103F, 20)]

/-- The `cycles` column, page 2, opcodes `80` to `8F` (30_encoding.md R141). -/
def cyclesPage2Row8 : List (Nat × Nat) :=
  [(0x1083, 5), (0x108C, 5), (0x108E, 4)]

/-- The `cycles` column, page 2, opcodes `90` to `9F` (30_encoding.md R141). -/
def cyclesPage2Row9 : List (Nat × Nat) :=
  [(0x1093, 7), (0x109C, 7), (0x109E, 6), (0x109F, 6)]

/-- The `cycles` column, page 2, opcodes `A0` to `AF` (30_encoding.md R141). -/
def cyclesPage2RowA : List (Nat × Nat) :=
  [(0x10A3, 7), (0x10AC, 7), (0x10AE, 6), (0x10AF, 6)]

/-- The `cycles` column, page 2, opcodes `B0` to `BF` (30_encoding.md R141). -/
def cyclesPage2RowB : List (Nat × Nat) :=
  [(0x10B3, 8), (0x10BC, 8), (0x10BE, 7), (0x10BF, 7)]

/-- The `cycles` column, page 2, opcodes `C0` to `CF` (30_encoding.md R141). -/
def cyclesPage2RowC : List (Nat × Nat) :=
  [(0x10CE, 4)]

/-- The `cycles` column, page 2, opcodes `D0` to `DF` (30_encoding.md R141). -/
def cyclesPage2RowD : List (Nat × Nat) :=
  [(0x10DE, 6), (0x10DF, 6)]

/-- The `cycles` column, page 2, opcodes `E0` to `EF` (30_encoding.md R141). -/
def cyclesPage2RowE : List (Nat × Nat) :=
  [(0x10EE, 6), (0x10EF, 6)]

/-- The `cycles` column, page 2, opcodes `F0` to `FF` (30_encoding.md R141). -/
def cyclesPage2RowF : List (Nat × Nat) :=
  [(0x10FE, 7), (0x10FF, 7)]

/-- The `cycles` column, page 3, opcodes `30` to `3F` (30_encoding.md R142). -/
def cyclesPage3Row3 : List (Nat × Nat) :=
  [(0x113F, 20)]

/-- The `cycles` column, page 3, opcodes `80` to `8F` (30_encoding.md R142). -/
def cyclesPage3Row8 : List (Nat × Nat) :=
  [(0x1183, 5), (0x118C, 5)]

/-- The `cycles` column, page 3, opcodes `90` to `9F` (30_encoding.md R142). -/
def cyclesPage3Row9 : List (Nat × Nat) :=
  [(0x1193, 7), (0x119C, 7)]

/-- The `cycles` column, page 3, opcodes `A0` to `AF` (30_encoding.md R142). -/
def cyclesPage3RowA : List (Nat × Nat) :=
  [(0x11A3, 7), (0x11AC, 7)]

/-- The `cycles` column, page 3, opcodes `B0` to `BF` (30_encoding.md R142). -/
def cyclesPage3RowB : List (Nat × Nat) :=
  [(0x11B3, 8), (0x11BC, 8)]

/-- The `cycles` column of R140 to R142: one entry for each of the 268 opcodes. -/
def baseCycles : List (Nat × Nat) :=
  cyclesPage1Row0 ++ cyclesPage1Row1 ++ cyclesPage1Row2 ++ cyclesPage1Row3 ++
  cyclesPage1Row4 ++ cyclesPage1Row5 ++ cyclesPage1Row6 ++ cyclesPage1Row7 ++
  cyclesPage1Row8 ++ cyclesPage1Row9 ++ cyclesPage1RowA ++ cyclesPage1RowB ++
  cyclesPage1RowC ++ cyclesPage1RowD ++ cyclesPage1RowE ++ cyclesPage1RowF ++
  cyclesPage2Row2 ++ cyclesPage2Row3 ++ cyclesPage2Row8 ++ cyclesPage2Row9 ++
  cyclesPage2RowA ++ cyclesPage2RowB ++ cyclesPage2RowC ++ cyclesPage2RowD ++
  cyclesPage2RowE ++ cyclesPage2RowF ++ cyclesPage3Row3 ++ cyclesPage3Row8 ++
  cyclesPage3Row9 ++ cyclesPage3RowA ++ cyclesPage3RowB

/-- The addend of a postbyte (R151). An undefined postbyte has none; no instruction carries one. -/
def postbyteCycles (pb : Nat) : Nat :=
  if pb < 128 then 1
  else
    let ind := pb / 16 % 2 = 1
    match pb % 16 with
    | 0 => 2
    | 1 => if ind then 6 else 3
    | 2 => 2
    | 3 => if ind then 6 else 3
    | 4 => if ind then 3 else 0
    | 5 => if ind then 4 else 1
    | 6 => if ind then 4 else 1
    | 8 => if ind then 4 else 1
    | 9 => if ind then 7 else 4
    | 11 => if ind then 7 else 4
    | 12 => if ind then 4 else 1
    | 13 => if ind then 8 else 5
    | 15 => 5
    | _ => 0

/-- The default `CYCLES` (R150, R151; 60_exceptions.md R412 to R414, R421). `RTI` takes 6, and 9 more
when E is pulled as 1. -/
def mc6809Cycles : CycleTable where
  base := baseCycles
  postbyte := (List.range 256).map postbyteCycles
  perByte := 1
  longTaken := 1
  rtiExtra := 9
  irq := 19
  firq := 10
  nmi := 19
  resume := 7
  idle := 1

/-- The suggested `bankDecode` of the main board, `v and (N - 1)`, for N banks, a power of two (20_memory.md R80). -/
def mainBankDecode (banks : Nat) : List (Option Nat) :=
  (List.range 256).map fun v => some (v % banks)

/-- The suggested `bankDecode` of the sound board for one byte: `sel = (not v) and 0xE0` names the segment, 0x80 U18,
0x40 U15, 0x20 U14, and the low four bits the bank in it (R80). -/
def soundBankOf (v : Nat) : Option Nat :=
  match 7 - v / 32 with
  | 4 => some (v % 16)
  | 2 => some (v % 16 + 0x10)
  | 1 => some (v % 16 + 0x20)
  | _ => none

/-- The suggested `bankDecode` of the sound board. -/
def soundBankDecode : List (Option Nat) := (List.range 256).map soundBankOf

/-- The main board's suggested map (R7, 20_memory.md R73), with four banks and empty images (log entries 3, 5, 6). -/
def mainBoard : BoardCfg where
  ramEnd := 0x3000
  hwEnd := 0x4000
  bankEnd := 0x8000
  ramSize := 0x4000
  ramImage := []
  fixedRom := .blank 0x8000
  bankedRom := .blank (4 * 0x4000)
  bankSelect := 0x3FFC
  bankDecode := mainBankDecode 4

/-- The sound board's suggested map (R7, R74): U18, U15 and U14 of 512 KiB each, 48 banks. -/
def soundBoard : BoardCfg where
  ramEnd := 0x2000
  hwEnd := 0x4000
  bankEnd := 0xC000
  ramSize := 0x2000
  ramImage := []
  fixedRom := .blank 0x4000
  bankedRom := .blank (48 * 0x8000)
  bankSelect := 0x2000
  bankDecode := soundBankDecode

/-- The suggested `RESET_REGS` (70_reset_and_hazards.md R481; log entry 4). -/
def resetRegs : ResetRegs where
  a := 0x00#8
  b := 0x00#8
  x := 0x0000#16
  y := 0x0000#16
  u := 0x0000#16
  s := 0x0000#16
  dp := 0x00#8
  cc := 0x50#8

/-- The configuration of State.reset: the suggested defaults of R7. R7 suggests no WATCHDOG_RELOAD_TICKS, no
FIRQ_HACK_TICKS and no image: those are DESIGN CHOICES (log entries 3 and 6). -/
def default : Cfg where
  main := mainBoard
  sound := soundBoard
  watchdogAddr := 0x3FFF
  zeroCrossAddr := 0x3FFF
  soundDataAddr := 0x3FDC
  latchReadAddr := 0x3000
  watchdogReload := 100
  zeroCrossPeriod := 16667
  zeroCrossRaisesIrq := false
  zeroCrossMask := 0x80#8
  zeroCrossMode := .toggle
  irqPeriod := 2049
  soundClkNum := 1
  soundClkDen := 1
  firqHackTicks := 1000000000
  cycles := mc6809Cycles
  resetRegs := resetRegs
  hasNmi := false
  devPorts := []

end Sys2Proof.Config
end

