-- ==== Sys2Proof/Machine/Bits.lean ====
section
/-! DEFINITION. Bit fields, concatenation and extension (00_scope.md R9, R10): the notation `a ++ b`, `v[hi:lo]`,
`sext_N`, `zext_N` of the rules. -/

namespace Sys2Proof

/-- `hi ++ lo`, the 16-bit value whose more significant byte is `hi` (R9; big-endian, 20_memory.md R61). -/
def word (hi lo : Byte) : Word := hi ++ lo

/-- `w[15:8]`. -/
def hiByte (w : Word) : Byte := w.extractLsb' 8 8

/-- `w[7:0]`. -/
def loByte (w : Word) : Byte := w.extractLsb' 0 8

/-- `sext_8` into an address: the offset of the 8-bit relative and indexed forms (R10). -/
def sext8 (b : Byte) : Word := b.signExtend 16

/-- `sext_5` into an address: the offset of postbyte layout A (30_encoding.md R121). -/
def sext5 (n : BitVec 5) : Word := n.signExtend 16

/-- `zext_8` into 16 bits (41_arithmetic.md R236, R239). -/
def zext8 (b : Byte) : Word := b.setWidth 16

/-- `v[7:4]`. -/
def hiNibble (b : Byte) : BitVec 4 := b.extractLsb' 4 4

/-- `v[3:0]`. -/
def loNibble (b : Byte) : BitVec 4 := b.extractLsb' 0 4

end Sys2Proof
end

