-- ==== Sys2Proof/Machine/Types.lean ====
section
/-! DEFINITION. The parts the state is made of (10_state.md): a core, a board, the timing controller, the fatal
conditions, the stepping call in progress and the host's calls. Plain data throughout. -/

namespace Sys2Proof.Machine

/-- The condition-code register as its "8 independent flags" (R27); bit 7 down to bit 0 are e f h i n z v c. No bit is
hardwired or reserved, so the byte and the flags determine each other (`CC.toByte`, `CC.ofByte`). -/
structure CC where
  /-- Entire, bit 7 (R35) -/
  e : Bool
  /-- FIRQ mask, bit 6 (R34) -/
  f : Bool
  /-- Half-carry, bit 5 (R33) -/
  h : Bool
  /-- IRQ mask, bit 4 (R32) -/
  i : Bool
  /-- Negative, bit 3 (R31) -/
  n : Bool
  /-- Zero, bit 2 (R30) -/
  z : Bool
  /-- Overflow, bit 1 (R29) -/
  v : Bool
  /-- Carry, bit 0 (R28) -/
  c : Bool
deriving DecidableEq, Repr

/-- The flags of a byte, bit 7 first (R27). -/
def CC.ofByte (v : Byte) : CC where
  e := v.getLsbD 7
  f := v.getLsbD 6
  h := v.getLsbD 5
  i := v.getLsbD 4
  n := v.getLsbD 3
  z := v.getLsbD 2
  v := v.getLsbD 1
  c := v.getLsbD 0

/-- The byte of the flags (R27): E F H I N Z V C from bit 7 down to bit 0. -/
def CC.toByte (cc : CC) : Byte :=
  (BitVec.ofBool cc.e ++ BitVec.ofBool cc.f ++ BitVec.ofBool cc.h ++ BitVec.ofBool cc.i ++
    BitVec.ofBool cc.n ++ BitVec.ofBool cc.z ++ BitVec.ofBool cc.v ++ BitVec.ofBool cc.c : BitVec (1 + 1 + 1 + 1 + 1 + 1 + 1 + 1))

/-- The wait state of a core (R43). -/
inductive Wait where
  | run
  | sync
  | cwai
deriving DecidableEq, Repr

/-- The state of one CPU core: its registers (R20 to R36) and its hidden state (R40 to R43). -/
structure Core where
  a : Byte
  b : Byte
  x : Word
  y : Word
  u : Word
  s : Word
  pc : Word
  dp : Byte
  cc : CC
  pendingIRQ : Bool
  pendingFIRQ : Bool
  pendingNMI : Bool
  nmiArmed : Bool
  missedIRQ : Nat
  missedFIRQ : Nat
  irqCount : Nat
  firqCount : Nat
  tickCount : Nat
  wait : Wait
deriving DecidableEq, Repr

/-- What a board owns besides its configuration (R44, R48). -/
structure BoardState where
  core : Core
  /-- by RAM offset, which is the address (20_memory.md R75) -/
  ram : Memory
  /-- the last raw byte written to each address of the hardware window (R48) -/
  hwShadow : Memory
  bank : Nat
deriving DecidableEq, Repr

/-- The watchdog's state (60_exceptions.md R432). -/
inductive WdState where
  | idle
  | armed
  | expired
deriving DecidableEq, Repr

/-- The main board's interrupt/timing controller (R45). -/
structure Controller where
  wdState : WdState
  wdCounter : Nat
  zcCounter : Nat
  zcFlag : Bool
  irqCounter : Nat
  periodicIrqEnable : Bool
  zcToggleCount : Nat
  wdExpiredCount : Nat
deriving DecidableEq, Repr

/-- The fatal conditions (R49; 60_exceptions.md R401 to R403). -/
inductive FatalCond where
  /-- bytes at `addr` that select no instruction: the bytes fetched so far -/
  | invalidOpcode (b : Board) (addr : Word) (bytes : List Byte)
  /-- a bus request outside 0 .. 0xFFFF -/
  | invalidBusAccess (b : Board) (addr : Nat)
  /-- a rejected bank-select byte -/
  | bankError (b : Board) (v : Byte)
deriving DecidableEq, Repr

/-- The kind of an unrecognised access (R404). -/
inductive AccessKind where
  | read
  | write
deriving DecidableEq, Repr

/-- One entry of the diagnostic record: `UnrecognizedRegisterAccess(board, off, kind)` (R404). -/
structure Diag where
  board : Board
  off : Nat
  kind : AccessKind
deriving DecidableEq, Repr

/-- An `executeCycles(totalTicks, ticksPerStep)` call in progress (R460). -/
structure ExecCall where
  total : Nat
  perStep : Nat
  executed : Nat
deriving DecidableEq, Repr

/-- Where the host's stepping call stands, which says the agent that moves next (R419, R420, R460 to R463; log entries 14
and 24). -/
inductive Lock where
  /-- no call in progress; the host single-steps the core in focus -/
  | idle (focus : Board)
  /-- inside `steps(n)` of one core, `done` cycles consumed so far (R420) -/
  | steps (b : Board) (n done : Nat)
  /-- phase 1 of a sub-step: the main core runs until `want` cycles have elapsed -/
  | mainSlice (call : ExecCall) (want ran : Nat)
  /-- phase 2: the controller advances by the `t` ticks consumed -/
  | control (call : ExecCall) (t : Nat)
  /-- phase 3: the sound core runs for its budget -/
  | soundSlice (call : ExecCall) (budget ran : Nat)
  /-- phase 4: the FM chip and the timer hack, for the `ts` cycles the sound core consumed -/
  | soundEnd (call : ExecCall) (ts : Nat)
deriving DecidableEq, Repr

/-- A host call not yet made (INDEX.md; 60_exceptions.md R407; 70_reset_and_hazards.md R480, R497, R499). The queue is
read only when no stepping call is in progress. -/
inductive HostCall where
  | irq (b : Board)
  | firq (b : Board)
  | nmi (b : Board)
  | clearIrqMasking (b : Board)
  | step (b : Board)
  | steps (b : Board) (n : Nat)
  | executeCycles (total perStep : Nat)
  | advance (t : Nat)
  | reset
  | resetBoard (b : Board)
  | busRead (b : Board) (addr : Nat)
  | busWrite (b : Board) (addr : Nat) (v : Byte)
  | setDirectInput (row : Nat) (v : Byte)
  /-- the spec gives the bitmask no width: any number (DESIGN CHOICE, log entry 35) -/
  | setCabinetInput (bitmask : Nat)
deriving DecidableEq, Repr

/-- The core whose step it is: every bus access, register and flag of an instruction is this core's. -/
def Lock.board : Lock → Board
  | .idle focus => focus
  | .steps b _ _ => b
  | .mainSlice _ _ _ => .main
  | .control _ _ => .main
  | .soundSlice _ _ _ => .sound
  | .soundEnd _ _ => .sound

end Sys2Proof.Machine
end

