-- ==== Sys2Proof/Machine/PowerOn.lean ====
section
/-! DEFINITION. What a core, a board and the controller hold right after reset (70_reset_and_hazards.md R481 to R489). -/

namespace Sys2Proof.Machine

/-- The reset vector at 0xFFFE of a board's fixed ROM, high byte first (70_reset_and_hazards.md R482: on both boards
0xFFFE decodes to fixed ROM). -/
def resetVector (c : BoardCfg) : Word :=
  word (c.fixedRom.read (0xFFFE - c.bankEnd)) (c.fixedRom.read (0xFFFF - c.bankEnd))

/-- A core right after reset (R481 to R485): every register but PC from `RESET_REGS`, whatever they are (log entry 36). -/
def Core.atReset (r : ResetRegs) (pc : Word) : Core where
  a := r.a
  b := r.b
  x := r.x
  y := r.y
  u := r.u
  s := r.s
  pc := pc
  dp := r.dp
  cc := CC.ofByte r.cc
  pendingIRQ := false
  pendingFIRQ := false
  pendingNMI := false
  nmiArmed := false
  missedIRQ := 0
  missedFIRQ := 0
  irqCount := 0
  firqCount := 0
  tickCount := 0
  wait := .run

/-- A board at power-on (R486, R489): the configured RAM image, the register shadow all 0x00, bank 0. -/
def BoardState.atPowerOn (r : ResetRegs) (c : BoardCfg) : BoardState where
  core := Core.atReset r (resetVector c)
  ram := c.ramImage
  hwShadow := []
  bank := 0

/-- The controller right after a main-board reset (R484, R487). -/
def Controller.atReset (c : Cfg) : Controller where
  wdState := .idle
  wdCounter := c.watchdogReload
  zcCounter := 0
  zcFlag := false
  irqCounter := 0
  periodicIrqEnable := true
  zcToggleCount := 0
  wdExpiredCount := 0

end Sys2Proof.Machine
end

