-- ==== Sys2Proof/Machine/State.lean ====
section
/-! DEFINITION. The state of the whole machine (10_state.md): two cores, two mappers, the timing controller, the sound
latch, the cycle lock, and the model's own fields (INVENTORY.md, State); why it stops; and the state after reset. -/

namespace Sys2Proof.Machine

/-- The machine. -/
structure State where
  /-- the configuration arguments (00_scope.md R7), constant along every run -/
  cfg : Cfg
  main : BoardState
  sound : BoardState
  ctl : Controller
  /-- the sound latch (R46) -/
  latchByte : Byte
  latchAvail : Bool
  /-- the cycle lock (R47) -/
  soundCarry : Nat
  firqHackCounter : Nat
  boardTicks : Nat
  /-- the halted state (R49) -/
  fatal : Option FatalCond
  /-- the diagnostic record, oldest first (60_exceptions.md R404) -/
  diag : List Diag
  /-- the model's: the stepping call in progress -/
  lock : Lock
  /-- the model's: the host calls not yet made, the next one first -/
  host : List HostCall
  /-- the model's: the value the last stepping call (`step`, `steps`, `executeCycles`) returned -/
  ret : Option Nat
  /-- the model's: the calls made to the environment and the inputs given to it so far, newest first, the argument of its free
  functions -/
  dev : List DevEvent
deriving DecidableEq, Repr

/-- Why the machine stops. -/
inductive Fault where
  /-- A step is asked of a machine whose `fatal` is not none: "While it is not `none` no agent has a step" (10_state.md
  R49; 93_implementation_defined.md U15). Raised by the machine's step. Safe: the spec says the same. -/
  | halted
deriving DecidableEq, Repr

/-- What the model does not accept. -/
inductive Refusal where
  /-- An instruction with no meaning yet, raised by an arm of exec. Safe. -/
  | notModelled (mnemonic : String)
  /-- A host call the spec says is refused: `executeCycles` with `ticksPerStep < 1`, `nmi()` without HAS_NMI
  (93_implementation_defined.md U14, 60_exceptions.md R410). Raised by the machine's step. Safe. -/
  | hostCallRefused (call : HostCall)
  /-- A configuration with a period, threshold or clock denominator of 0 (U16), met when the controller or the timer hack
  needs it, or a map that breaks the constraints of 00_scope.md R7. Raised by the machine's step and by `State.initialise`.
  Safe. -/
  | configRefused
  /-- `RomLoadError`: a ROM image that is missing or whose length is not the one 00_scope.md R7 asks
  (70_reset_and_hazards.md R493, R496, U14). Raised by `State.initialise`. Safe. -/
  | romLoadError
deriving DecidableEq, Repr

/-- The machine at power-on with a configuration (R480: the boards are created and then reset). -/
def State.powerOn (c : Cfg) : State where
  cfg := c
  main := BoardState.atPowerOn c.resetRegs c.main
  sound := BoardState.atPowerOn c.resetRegs c.sound
  ctl := Controller.atReset c
  latchByte := 0x00#8
  latchAvail := false
  soundCarry := 0
  firqHackCounter := 0
  boardTicks := 0
  fatal := none
  diag := []
  lock := .idle .main
  host := []
  ret := none
  dev := []

/-- The machine right after reset, with the default configuration (R50, R480 to R490; log entries 2 to 6). -/
def State.reset : State := State.powerOn Config.default

end Sys2Proof.Machine
end

