-- ==== Sys2Proof/Machine/Access.lean ====
section
/-! DEFINITION. Reading and replacing the parts of the state: a board, a core, the stepping core. -/

namespace Sys2Proof.Machine

/-- The core whose step it is. -/
def State.active (s : State) : Board := s.lock.board

/-- What a board owns. -/
def State.bd (s : State) : Board → BoardState
  | .main => s.main
  | .sound => s.sound

/-- The state with a board's part replaced. -/
def State.setBd (s : State) (b : Board) (v : BoardState) : State :=
  match b with
  | .main => { s with main := v }
  | .sound => { s with sound := v }

/-- A board's core. -/
def State.coreOf (s : State) (b : Board) : Core := (s.bd b).core

/-- The state with a board's core replaced. -/
def State.setCoreOf (s : State) (b : Board) (c : Core) : State := s.setBd b { s.bd b with core := c }

/-- The core whose step it is. -/
def State.core (s : State) : Core := s.coreOf s.active

/-- The state with the stepping core replaced. -/
def State.setCore (s : State) (c : Core) : State := s.setCoreOf s.active c

/-- The state with one change made to a board's core. -/
def State.modCoreOf (s : State) (b : Board) (f : Core → Core) : State := s.setCoreOf b (f (s.coreOf b))

/-- The state with one change made to the stepping core. -/
def State.modCore (s : State) (f : Core → Core) : State := s.setCore (f s.core)

/-- `n` cycles consumed by the stepping core (60_exceptions.md R419). -/
def State.tick (s : State) (n : Nat) : State := s.modCore fun c => { c with tickCount := c.tickCount + n }

end Sys2Proof.Machine
end

