-- ==== Sys2Proof/Machine/Lines.lean ====
section
/-! DEFINITION. The interrupt latches of a core and who asserts them (60_exceptions.md R407 to R410, R418), and what the
devices behind the device port may do to the machine (20_memory.md R84). -/

namespace Sys2Proof.Machine

/-- `irq()` (R408): a redundant assertion is counted, whatever the mask. -/
def Core.irq (c : Core) : Core :=
  { c with pendingIRQ := true, missedIRQ := if c.pendingIRQ then c.missedIRQ + 1 else c.missedIRQ }

/-- `firq()` (R409). -/
def Core.firq (c : Core) : Core :=
  { c with pendingFIRQ := true, missedFIRQ := if c.pendingFIRQ then c.missedFIRQ + 1 else c.missedFIRQ }

/-- `nmi()` (R410). -/
def Core.nmi (c : Core) : Core := { c with pendingNMI := true }

/-- `clearIrqMasking()` (R418). -/
def Core.clearIrqMasking (c : Core) : Core := { c with cc := { c.cc with i := false } }

/-- `irq()` on a board's core. -/
def State.irq (s : State) (b : Board) : State := s.modCoreOf b Core.irq

/-- `firq()` on a board's core. -/
def State.firq (s : State) (b : Board) : State := s.modCoreOf b Core.firq

/-- One effect of a device (R84, R435, R456; log entry 11). -/
def State.devEffect (s : State) : DevEffect → State
  | .irq b => s.irq b
  | .firq b => s.firq b
  | .periodicIrqEnable on => { s with ctl := { s.ctl with periodicIrqEnable := on } }

/-- Effects of devices in order. -/
def State.devEffects (s : State) : List DevEffect → State
  | [] => s
  | e :: es => (s.devEffect e).devEffects es

/-- One more call made to the environment. -/
def State.record (s : State) (e : DevEvent) : State := { s with dev := e :: s.dev }

/-- The calls made to the environment so far, without the inputs given to it (70_reset_and_hazards.md R499). -/
def State.calls (s : State) : List DevEvent := s.dev.filter fun e => !e.isInput

/-- One more call made to the environment, and what the devices do in answer to it. -/
def State.devCall (s : State) (e : DevEvent) : State :=
  (s.record e).devEffects (Config.devEffects (s.record e).calls)

/-- Whether a register of a window is wired to a device (log entry 10). -/
def State.wired (s : State) (b : Board) (off : Nat) : Bool := s.cfg.devPorts.contains (b, off)

end Sys2Proof.Machine
end

