-- ==== Sys2Proof/Machine/Bus.lean ====
section
/-! DEFINITION. The bus mapper of each board and the hardware-register window (20_memory.md): decoding an address, one
byte read, one byte write. An operation answers a value and a state, or the state with `fatal` set, in which case what
follows it is abandoned (60_exceptions.md R403, R405). -/

namespace Sys2Proof.Machine

/-- A part of a step: it changes the state and answers a value, or it ends the step with `fatal` set. -/
abbrev Op := EStateM Unit State

/-- A fatal condition (60_exceptions.md R401 to R403): it is recorded and the step ends. -/
def raise {α : Type} (f : FatalCond) : Op α := fun s => .error () { s with fatal := some f }

/-- The subsystems of a decode result (R72). -/
inductive Subsystem where
  | ram
  | rom
  | bankswitched
  | hardware
deriving DecidableEq, Repr

/-- `{subsystem, offset}` (R72). -/
structure DecodeResult where
  sub : Subsystem
  offset : Nat
deriving DecidableEq, Repr

/-- `decode(b, a)` (R73 to R76): `none` for a number that is no address. -/
def decodeAddr (c : BoardCfg) (a : Nat) : Option DecodeResult :=
  if a < 0x10000 then
    if a < c.ramEnd then some ⟨.ram, a⟩
    else if a < c.hwEnd then some ⟨.hardware, a⟩
    else if a < c.bankEnd then some ⟨.bankswitched, a - c.hwEnd⟩
    else some ⟨.rom, a - c.bankEnd⟩
  else none

/-- `bankDecode(b, v)` (R80). -/
def bankOf (c : BoardCfg) (v : Byte) : Option Nat := (c.bankDecode[v.toNat]?).join

/-- The bank a raw byte selects, if it is a bank of the ROM (R80). -/
def acceptedBank (c : BoardCfg) (v : Byte) : Option Nat :=
  match bankOf c v with
  | some i => if i < c.banks then some i else none
  | none => none

/-- `bankedRom(b)[bank_b * WINDOW_SIZE(b) + off]` (R79). -/
def State.bankedByte (s : State) (b : Board) (off : Nat) : Byte :=
  (s.cfg.board b).bankedRom.read ((s.bd b).bank * (s.cfg.board b).window + off)

/-- What stands at an address, without the side effects of a read: the RAM byte, the ROM byte, the banked ROM byte, and
in the hardware window the backing storage. -/
def State.peek (s : State) (b : Board) (a : Nat) : Byte :=
  match decodeAddr (s.cfg.board b) a with
  | some ⟨.ram, off⟩ => (s.bd b).ram.read off
  | some ⟨.rom, off⟩ => (s.cfg.board b).fixedRom.read off
  | some ⟨.bankswitched, off⟩ => s.bankedByte b off
  | some ⟨.hardware, off⟩ => (s.bd b).hwShadow.read off
  | none => Memory.unlisted

/-- A RAM byte replaced (R77). -/
def State.setRam (s : State) (b : Board) (off : Nat) (v : Byte) : State :=
  s.setBd b { s.bd b with ram := (s.bd b).ram.write off v }

/-- `hwShadow_b[off] <- v` (R48, R85). -/
def State.setShadow (s : State) (b : Board) (off : Nat) (v : Byte) : State :=
  s.setBd b { s.bd b with hwShadow := (s.bd b).hwShadow.write off v }

/-- `bank_b <- i` (R80). -/
def State.setBank (s : State) (b : Board) (i : Nat) : State := s.setBd b { s.bd b with bank := i }

/-- `UnrecognizedRegisterAccess(b, off, kind)` recorded (60_exceptions.md R404). -/
def State.report (s : State) (b : Board) (off : Nat) (k : AccessKind) : State :=
  { s with diag := s.diag ++ [⟨b, off, k⟩] }

/-- `selectBank(b, v)` (R80, 60_exceptions.md R403). -/
def selectBank (b : Board) (v : Byte) : Op Unit := fun s =>
  match acceptedBank (s.cfg.board b) v with
  | some i => .ok () (s.setBank b i)
  | none => raise (.bankError b v) s

/-- The watchdog service (60_exceptions.md R432, R433). -/
def Controller.service (k : Controller) (reload : Nat) : Controller :=
  { k with
    wdCounter := reload
    wdState := match k.wdState with
      | .idle => .armed
      | .armed => .armed
      | .expired => .idle }

/-- A write of the sound-data register reaches the latch and asserts the sound IRQ (60_exceptions.md R451). -/
def State.writeLatch (s : State) (v : Byte) : State :=
  { s with latchByte := v, latchAvail := true }.irq .sound

/-- The fallback of a write no owner takes: the device port, and a diagnostic when no device handles it (R86). -/
def State.portWrite (s : State) (b : Board) (off : Nat) (v : Byte) : State :=
  if s.wired b off then
    if Config.devWrite (s.record (.write b off v)).calls b off v then s.devCall (.write b off v)
    else (s.devCall (.write b off v)).report b off .write
  else s.report b off .write

/-- `HwWrite(b, off, v)` (R84 to R86): every write is recorded in the shadow; then the owner's action. -/
def hwWrite (b : Board) (off : Nat) (v : Byte) : Op Unit := fun s =>
  let s := s.setShadow b off v
  if off = (s.cfg.board b).bankSelect then selectBank b v s
  else if b = .main ∧ off = s.cfg.watchdogAddr then
    .ok () { s with ctl := s.ctl.service s.cfg.watchdogReload }
  else if b = .main ∧ off = s.cfg.soundDataAddr then .ok () (s.writeLatch v)
  else .ok () (s.portWrite b off v)

/-- The fallback of a read no owner takes: the device port, which may expose `latchAvail` (60_exceptions.md R453), then the
backing storage with a diagnostic (R86). -/
def State.portRead (s : State) (b : Board) (off : Nat) : Byte × State :=
  if s.wired b off then
    let s' := s.devCall (.read b off)
    match Config.devRead (s.record (.read b off)).dev s.latchAvail b off with
    | some v => (v, s')
    | none => ((s'.bd b).hwShadow.read off, s'.report b off .read)
  else ((s.bd b).hwShadow.read off, s.report b off .read)

/-- The zero-cross status read (60_exceptions.md R441). -/
def State.readZeroCross (s : State) : Byte × State :=
  (if s.ctl.zcFlag then s.cfg.zeroCrossMask else 0x00#8,
    match s.cfg.zeroCrossMode with
    | .toggle => s
    | .setClearOnRead => { s with ctl := { s.ctl with zcFlag := false } })

/-- The sound-latch read (60_exceptions.md R452): the byte, and the sound core's IRQ mask cleared. -/
def State.readLatch (s : State) : Byte × State := (s.latchByte, s.modCoreOf .sound Core.clearIrqMasking)

/-- `HwRead(b, off)` (R84 to R87). -/
def State.hwRead (s : State) (b : Board) (off : Nat) : Byte × State :=
  if off = (s.cfg.board b).bankSelect then ((s.bd b).hwShadow.read off, s)
  else if b = .main ∧ off = s.cfg.zeroCrossAddr then s.readZeroCross
  else if b = .sound ∧ off = s.cfg.latchReadAddr then s.readLatch
  else s.portRead b off

/-- `MemRead(addr, 1)` of board `b` for a number `a` (R62, R76): a number that is no address is fatal. -/
def busRead (b : Board) (a : Nat) : Op Byte := fun s =>
  match decodeAddr (s.cfg.board b) a with
  | some ⟨.hardware, off⟩ => .ok (s.hwRead b off).1 (s.hwRead b off).2
  | some _ => .ok (s.peek b a) s
  | none => raise (.invalidBusAccess b a) s

/-- `MemWrite(addr, 1, v)` of board `b` (R63, R76, R82). -/
def busWrite (b : Board) (a : Nat) (v : Byte) : Op Unit := fun s =>
  match decodeAddr (s.cfg.board b) a with
  | some ⟨.ram, off⟩ => .ok () (s.setRam b off v)
  | some ⟨.hardware, off⟩ => hwWrite b off v s
  | some _ => .ok () s
  | none => raise (.invalidBusAccess b a) s

end Sys2Proof.Machine
end

