-- ==== Sys2Proof/Syntax.lean ====
section
/-! DEFINITION. The instructions of the MC6809 (spec/opcode_table.json, 30_encoding.md R140 to R142) and their operand
forms (R112 to R139), as the decoder hands them to the machine. -/

namespace Sys2Proof

/-- The 8-bit accumulators (10_state.md R21). -/
inductive Acc where
  | a
  | b
deriving DecidableEq, Repr

/-- The base registers of indexed addressing, `RR` = 00 X, 01 Y, 10 U, 11 S (30_encoding.md R120). -/
inductive IdxReg where
  | x
  | y
  | u
  | s
deriving DecidableEq, Repr

/-- The 16-bit registers of the loads, stores and compares. -/
inductive Wide where
  | d
  | x
  | y
  | u
  | s
deriving DecidableEq, Repr

/-- The 16-bit registers of `TFR` and `EXG` (43_transfer_stack.md R300, codes 0 to 5). -/
inductive Reg16 where
  | d
  | x
  | y
  | u
  | s
  | pc
deriving DecidableEq, Repr

/-- The 8-bit registers of `TFR` and `EXG` (R300, codes 8 to 11). -/
inductive Reg8 where
  | a
  | b
  | cc
  | dp
deriving DecidableEq, Repr

/-- A register named by a code of R300, with its width. -/
inductive Reg where
  | r16 (r : Reg16)
  | r8 (r : Reg8)
deriving DecidableEq, Repr

/-- The defined indexed postbytes and their extension bytes (30_encoding.md R120 to R135). `ind` is the indirection bit;
the modes without it cannot be indirect. `rr` is the ignored `RR` field of the two PC-relative modes (R132, R133). -/
inductive Indexed where
  | off5 (r : IdxReg) (n : BitVec 5)
  | inc1 (r : IdxReg)
  | inc2 (r : IdxReg) (ind : Bool)
  | dec1 (r : IdxReg)
  | dec2 (r : IdxReg) (ind : Bool)
  | zero (r : IdxReg) (ind : Bool)
  | accB (r : IdxReg) (ind : Bool)
  | accA (r : IdxReg) (ind : Bool)
  | off8 (r : IdxReg) (ind : Bool) (n : Byte)
  | off16 (r : IdxReg) (ind : Bool) (n : Word)
  | accD (r : IdxReg) (ind : Bool)
  | pc8 (rr : IdxReg) (ind : Bool) (n : Byte)
  | pc16 (rr : IdxReg) (ind : Bool) (n : Word)
  | extInd (n : Word)
deriving DecidableEq, Repr

/-- A memory operand: formats DIR, IDX, EXT (R112). -/
inductive MemOp where
  | dir (a : Byte)
  | idx (p : Indexed)
  | ext (a : Word)
deriving DecidableEq, Repr

/-- An 8-bit source operand: IMM8 or memory (40_load_store.md R160, `Operand8`). -/
inductive Src8 where
  | imm (v : Byte)
  | mem (m : MemOp)
deriving DecidableEq, Repr

/-- A 16-bit source operand: IMM16 or memory (R160, `Operand16`). -/
inductive Src16 where
  | imm (v : Word)
  | mem (m : MemOp)
deriving DecidableEq, Repr

/-- The sixteen branch conditions in the order of their code `cccc` (44_branch.md R320). -/
inductive Cond where
  | ra
  | rn
  | hi
  | ls
  | cc
  | cs
  | ne
  | eq
  | vc
  | vs
  | pl
  | mi
  | ge
  | lt
  | gt
  | le
deriving DecidableEq, Repr

/-- The 8-bit operations of an accumulator and an operand. -/
inductive Bin8 where
  | ld
  | add
  | adc
  | sub
  | sbc
  | cmp
  | and
  | or
  | eor
  | bit
deriving DecidableEq, Repr

/-- The 8-bit operations on one operand, an accumulator or a memory byte. -/
inductive Un8 where
  | neg
  | com
  | lsr
  | ror
  | asr
  | asl
  | rol
  | dec
  | inc
  | tst
  | clr
deriving DecidableEq, Repr

/-- The instructions: one constructor per row of spec/opcode_table.json, those with operand bytes first. -/
inductive Instr where
  -- LDA (R161)
  | ldaImm (v : Byte)
  | ldaDir (a : Byte)
  | ldaIdx (p : Indexed)
  | ldaExt (a : Word)
  -- LDB (R162)
  | ldbImm (v : Byte)
  | ldbDir (a : Byte)
  | ldbIdx (p : Indexed)
  | ldbExt (a : Word)
  -- LDD (R163)
  | lddImm (v : Word)
  | lddDir (a : Byte)
  | lddIdx (p : Indexed)
  | lddExt (a : Word)
  -- LDX (R164)
  | ldxImm (v : Word)
  | ldxDir (a : Byte)
  | ldxIdx (p : Indexed)
  | ldxExt (a : Word)
  -- LDY (R165)
  | ldyImm (v : Word)
  | ldyDir (a : Byte)
  | ldyIdx (p : Indexed)
  | ldyExt (a : Word)
  -- LDU (R166)
  | lduImm (v : Word)
  | lduDir (a : Byte)
  | lduIdx (p : Indexed)
  | lduExt (a : Word)
  -- LDS (R167)
  | ldsImm (v : Word)
  | ldsDir (a : Byte)
  | ldsIdx (p : Indexed)
  | ldsExt (a : Word)
  -- STA (R168)
  | staDir (a : Byte)
  | staIdx (p : Indexed)
  | staExt (a : Word)
  -- STB (R169)
  | stbDir (a : Byte)
  | stbIdx (p : Indexed)
  | stbExt (a : Word)
  -- STD (R170)
  | stdDir (a : Byte)
  | stdIdx (p : Indexed)
  | stdExt (a : Word)
  -- STX (R171)
  | stxDir (a : Byte)
  | stxIdx (p : Indexed)
  | stxExt (a : Word)
  -- STY (R172)
  | styDir (a : Byte)
  | styIdx (p : Indexed)
  | styExt (a : Word)
  -- STU (R173)
  | stuDir (a : Byte)
  | stuIdx (p : Indexed)
  | stuExt (a : Word)
  -- STS (R174)
  | stsDir (a : Byte)
  | stsIdx (p : Indexed)
  | stsExt (a : Word)
  -- LEAX (R175)
  | leax (p : Indexed)
  -- LEAY (R176)
  | leay (p : Indexed)
  -- LEAS (R177)
  | leas (p : Indexed)
  -- LEAU (R178)
  | leau (p : Indexed)
  -- ADDA (R204)
  | addaImm (v : Byte)
  | addaDir (a : Byte)
  | addaIdx (p : Indexed)
  | addaExt (a : Word)
  -- ADDB (R205)
  | addbImm (v : Byte)
  | addbDir (a : Byte)
  | addbIdx (p : Indexed)
  | addbExt (a : Word)
  -- ADCA (R206)
  | adcaImm (v : Byte)
  | adcaDir (a : Byte)
  | adcaIdx (p : Indexed)
  | adcaExt (a : Word)
  -- ADCB (R207)
  | adcbImm (v : Byte)
  | adcbDir (a : Byte)
  | adcbIdx (p : Indexed)
  | adcbExt (a : Word)
  -- SUBA (R208)
  | subaImm (v : Byte)
  | subaDir (a : Byte)
  | subaIdx (p : Indexed)
  | subaExt (a : Word)
  -- SUBB (R209)
  | subbImm (v : Byte)
  | subbDir (a : Byte)
  | subbIdx (p : Indexed)
  | subbExt (a : Word)
  -- SBCA (R210)
  | sbcaImm (v : Byte)
  | sbcaDir (a : Byte)
  | sbcaIdx (p : Indexed)
  | sbcaExt (a : Word)
  -- SBCB (R211)
  | sbcbImm (v : Byte)
  | sbcbDir (a : Byte)
  | sbcbIdx (p : Indexed)
  | sbcbExt (a : Word)
  -- CMPA (R212)
  | cmpaImm (v : Byte)
  | cmpaDir (a : Byte)
  | cmpaIdx (p : Indexed)
  | cmpaExt (a : Word)
  -- CMPB (R213)
  | cmpbImm (v : Byte)
  | cmpbDir (a : Byte)
  | cmpbIdx (p : Indexed)
  | cmpbExt (a : Word)
  -- ADDD (R214)
  | adddImm (v : Word)
  | adddDir (a : Byte)
  | adddIdx (p : Indexed)
  | adddExt (a : Word)
  -- SUBD (R215)
  | subdImm (v : Word)
  | subdDir (a : Byte)
  | subdIdx (p : Indexed)
  | subdExt (a : Word)
  -- CMPD (R216)
  | cmpdImm (v : Word)
  | cmpdDir (a : Byte)
  | cmpdIdx (p : Indexed)
  | cmpdExt (a : Word)
  -- CMPX (R217)
  | cmpxImm (v : Word)
  | cmpxDir (a : Byte)
  | cmpxIdx (p : Indexed)
  | cmpxExt (a : Word)
  -- CMPY (R218)
  | cmpyImm (v : Word)
  | cmpyDir (a : Byte)
  | cmpyIdx (p : Indexed)
  | cmpyExt (a : Word)
  -- CMPU (R219)
  | cmpuImm (v : Word)
  | cmpuDir (a : Byte)
  | cmpuIdx (p : Indexed)
  | cmpuExt (a : Word)
  -- CMPS (R220)
  | cmpsImm (v : Word)
  | cmpsDir (a : Byte)
  | cmpsIdx (p : Indexed)
  | cmpsExt (a : Word)
  -- NEG (R223)
  | negDir (a : Byte)
  | negIdx (p : Indexed)
  | negExt (a : Word)
  -- INC (R226)
  | incDir (a : Byte)
  | incIdx (p : Indexed)
  | incExt (a : Word)
  -- DEC (R229)
  | decDir (a : Byte)
  | decIdx (p : Indexed)
  | decExt (a : Word)
  -- CLR (R232)
  | clrDir (a : Byte)
  | clrIdx (p : Indexed)
  | clrExt (a : Word)
  -- TST (R235)
  | tstDir (a : Byte)
  | tstIdx (p : Indexed)
  | tstExt (a : Word)
  -- ANDA (R261)
  | andaImm (v : Byte)
  | andaDir (a : Byte)
  | andaIdx (p : Indexed)
  | andaExt (a : Word)
  -- ANDB (R262)
  | andbImm (v : Byte)
  | andbDir (a : Byte)
  | andbIdx (p : Indexed)
  | andbExt (a : Word)
  -- ORA (R263)
  | oraImm (v : Byte)
  | oraDir (a : Byte)
  | oraIdx (p : Indexed)
  | oraExt (a : Word)
  -- ORB (R264)
  | orbImm (v : Byte)
  | orbDir (a : Byte)
  | orbIdx (p : Indexed)
  | orbExt (a : Word)
  -- EORA (R265)
  | eoraImm (v : Byte)
  | eoraDir (a : Byte)
  | eoraIdx (p : Indexed)
  | eoraExt (a : Word)
  -- EORB (R266)
  | eorbImm (v : Byte)
  | eorbDir (a : Byte)
  | eorbIdx (p : Indexed)
  | eorbExt (a : Word)
  -- BITA (R267)
  | bitaImm (v : Byte)
  | bitaDir (a : Byte)
  | bitaIdx (p : Indexed)
  | bitaExt (a : Word)
  -- BITB (R268)
  | bitbImm (v : Byte)
  | bitbDir (a : Byte)
  | bitbIdx (p : Indexed)
  | bitbExt (a : Word)
  -- COM (R271)
  | comDir (a : Byte)
  | comIdx (p : Indexed)
  | comExt (a : Word)
  -- ANDCC (R272)
  | andcc (v : Byte)
  -- ORCC (R273)
  | orcc (v : Byte)
  -- LSR (R276)
  | lsrDir (a : Byte)
  | lsrIdx (p : Indexed)
  | lsrExt (a : Word)
  -- ASR (R279)
  | asrDir (a : Byte)
  | asrIdx (p : Indexed)
  | asrExt (a : Word)
  -- ASL (R282)
  | aslDir (a : Byte)
  | aslIdx (p : Indexed)
  | aslExt (a : Word)
  -- ROL (R285)
  | rolDir (a : Byte)
  | rolIdx (p : Indexed)
  | rolExt (a : Word)
  -- ROR (R288)
  | rorDir (a : Byte)
  | rorIdx (p : Indexed)
  | rorExt (a : Word)
  -- TFR (R301)
  | tfr (r0 : Reg) (r1 : Reg)
  -- EXG (R302)
  | exg (r0 : Reg) (r1 : Reg)
  -- PSHS (R303)
  | pshs (m : Byte)
  -- PULS (R304)
  | puls (m : Byte)
  -- PSHU (R305)
  | pshu (m : Byte)
  -- PULU (R306)
  | pulu (m : Byte)
  -- BRA (R321)
  | bra (o : Byte)
  -- BRN (R322)
  | brn (o : Byte)
  -- BHI (R323)
  | bhi (o : Byte)
  -- BLS (R324)
  | bls (o : Byte)
  -- BCC (R325)
  | bcc (o : Byte)
  -- BCS (R326)
  | bcs (o : Byte)
  -- BNE (R327)
  | bne (o : Byte)
  -- BEQ (R328)
  | beq (o : Byte)
  -- BVC (R329)
  | bvc (o : Byte)
  -- BVS (R330)
  | bvs (o : Byte)
  -- BPL (R331)
  | bpl (o : Byte)
  -- BMI (R332)
  | bmi (o : Byte)
  -- BGE (R333)
  | bge (o : Byte)
  -- BLT (R334)
  | blt (o : Byte)
  -- BGT (R335)
  | bgt (o : Byte)
  -- BLE (R336)
  | ble (o : Byte)
  -- LBRA (R337)
  | lbra (o : Word)
  -- LBRN (R338)
  | lbrn (o : Word)
  -- LBHI (R339)
  | lbhi (o : Word)
  -- LBLS (R340)
  | lbls (o : Word)
  -- LBCC (R341)
  | lbcc (o : Word)
  -- LBCS (R342)
  | lbcs (o : Word)
  -- LBNE (R343)
  | lbne (o : Word)
  -- LBEQ (R344)
  | lbeq (o : Word)
  -- LBVC (R345)
  | lbvc (o : Word)
  -- LBVS (R346)
  | lbvs (o : Word)
  -- LBPL (R347)
  | lbpl (o : Word)
  -- LBMI (R348)
  | lbmi (o : Word)
  -- LBGE (R349)
  | lbge (o : Word)
  -- LBLT (R350)
  | lblt (o : Word)
  -- LBGT (R351)
  | lbgt (o : Word)
  -- LBLE (R352)
  | lble (o : Word)
  -- BSR (R353)
  | bsr (o : Byte)
  -- LBSR (R354)
  | lbsr (o : Word)
  -- JMP (R355)
  | jmpDir (a : Byte)
  | jmpIdx (p : Indexed)
  | jmpExt (a : Word)
  -- JSR (R356)
  | jsrDir (a : Byte)
  | jsrIdx (p : Indexed)
  | jsrExt (a : Word)
  -- CWAI (R375)
  | cwai (v : Byte)
  -- NEGA (R221)
  | nega
  -- NEGB (R222)
  | negb
  -- INCA (R224)
  | inca
  -- INCB (R225)
  | incb
  -- DECA (R227)
  | deca
  -- DECB (R228)
  | decb
  -- CLRA (R230)
  | clra
  -- CLRB (R231)
  | clrb
  -- TSTA (R233)
  | tsta
  -- TSTB (R234)
  | tstb
  -- MUL (R236)
  | mul
  -- DAA (R237)
  | daa
  -- SEX (R238)
  | sex
  -- ABX (R239)
  | abx
  -- COMA (R269)
  | coma
  -- COMB (R270)
  | comb
  -- LSRA (R274)
  | lsra
  -- LSRB (R275)
  | lsrb
  -- ASRA (R277)
  | asra
  -- ASRB (R278)
  | asrb
  -- ASLA (R280)
  | asla
  -- ASLB (R281)
  | aslb
  -- ROLA (R283)
  | rola
  -- ROLB (R284)
  | rolb
  -- RORA (R286)
  | rora
  -- RORB (R287)
  | rorb
  -- RTS (R357)
  | rts
  -- NOP (R370)
  | nop
  -- SWI (R371)
  | swi
  -- SWI2 (R372)
  | swi2
  -- SWI3 (R373)
  | swi3
  -- RTI (R374)
  | rti
  -- SYNC (R376)
  | sync
deriving DecidableEq, Repr

/-- The rows of the 8-bit two-operand instructions `<o><r>` (LDA, ADDB, ...) by operand form. -/
def Instr.bin8 : Bin8 → Acc → Src8 → Instr
  | .ld, .a, .imm v => .ldaImm v
  | .ld, .a, .mem (.dir a) => .ldaDir a
  | .ld, .a, .mem (.idx p) => .ldaIdx p
  | .ld, .a, .mem (.ext a) => .ldaExt a
  | .ld, .b, .imm v => .ldbImm v
  | .ld, .b, .mem (.dir a) => .ldbDir a
  | .ld, .b, .mem (.idx p) => .ldbIdx p
  | .ld, .b, .mem (.ext a) => .ldbExt a
  | .add, .a, .imm v => .addaImm v
  | .add, .a, .mem (.dir a) => .addaDir a
  | .add, .a, .mem (.idx p) => .addaIdx p
  | .add, .a, .mem (.ext a) => .addaExt a
  | .add, .b, .imm v => .addbImm v
  | .add, .b, .mem (.dir a) => .addbDir a
  | .add, .b, .mem (.idx p) => .addbIdx p
  | .add, .b, .mem (.ext a) => .addbExt a
  | .adc, .a, .imm v => .adcaImm v
  | .adc, .a, .mem (.dir a) => .adcaDir a
  | .adc, .a, .mem (.idx p) => .adcaIdx p
  | .adc, .a, .mem (.ext a) => .adcaExt a
  | .adc, .b, .imm v => .adcbImm v
  | .adc, .b, .mem (.dir a) => .adcbDir a
  | .adc, .b, .mem (.idx p) => .adcbIdx p
  | .adc, .b, .mem (.ext a) => .adcbExt a
  | .sub, .a, .imm v => .subaImm v
  | .sub, .a, .mem (.dir a) => .subaDir a
  | .sub, .a, .mem (.idx p) => .subaIdx p
  | .sub, .a, .mem (.ext a) => .subaExt a
  | .sub, .b, .imm v => .subbImm v
  | .sub, .b, .mem (.dir a) => .subbDir a
  | .sub, .b, .mem (.idx p) => .subbIdx p
  | .sub, .b, .mem (.ext a) => .subbExt a
  | .sbc, .a, .imm v => .sbcaImm v
  | .sbc, .a, .mem (.dir a) => .sbcaDir a
  | .sbc, .a, .mem (.idx p) => .sbcaIdx p
  | .sbc, .a, .mem (.ext a) => .sbcaExt a
  | .sbc, .b, .imm v => .sbcbImm v
  | .sbc, .b, .mem (.dir a) => .sbcbDir a
  | .sbc, .b, .mem (.idx p) => .sbcbIdx p
  | .sbc, .b, .mem (.ext a) => .sbcbExt a
  | .cmp, .a, .imm v => .cmpaImm v
  | .cmp, .a, .mem (.dir a) => .cmpaDir a
  | .cmp, .a, .mem (.idx p) => .cmpaIdx p
  | .cmp, .a, .mem (.ext a) => .cmpaExt a
  | .cmp, .b, .imm v => .cmpbImm v
  | .cmp, .b, .mem (.dir a) => .cmpbDir a
  | .cmp, .b, .mem (.idx p) => .cmpbIdx p
  | .cmp, .b, .mem (.ext a) => .cmpbExt a
  | .and, .a, .imm v => .andaImm v
  | .and, .a, .mem (.dir a) => .andaDir a
  | .and, .a, .mem (.idx p) => .andaIdx p
  | .and, .a, .mem (.ext a) => .andaExt a
  | .and, .b, .imm v => .andbImm v
  | .and, .b, .mem (.dir a) => .andbDir a
  | .and, .b, .mem (.idx p) => .andbIdx p
  | .and, .b, .mem (.ext a) => .andbExt a
  | .or, .a, .imm v => .oraImm v
  | .or, .a, .mem (.dir a) => .oraDir a
  | .or, .a, .mem (.idx p) => .oraIdx p
  | .or, .a, .mem (.ext a) => .oraExt a
  | .or, .b, .imm v => .orbImm v
  | .or, .b, .mem (.dir a) => .orbDir a
  | .or, .b, .mem (.idx p) => .orbIdx p
  | .or, .b, .mem (.ext a) => .orbExt a
  | .eor, .a, .imm v => .eoraImm v
  | .eor, .a, .mem (.dir a) => .eoraDir a
  | .eor, .a, .mem (.idx p) => .eoraIdx p
  | .eor, .a, .mem (.ext a) => .eoraExt a
  | .eor, .b, .imm v => .eorbImm v
  | .eor, .b, .mem (.dir a) => .eorbDir a
  | .eor, .b, .mem (.idx p) => .eorbIdx p
  | .eor, .b, .mem (.ext a) => .eorbExt a
  | .bit, .a, .imm v => .bitaImm v
  | .bit, .a, .mem (.dir a) => .bitaDir a
  | .bit, .a, .mem (.idx p) => .bitaIdx p
  | .bit, .a, .mem (.ext a) => .bitaExt a
  | .bit, .b, .imm v => .bitbImm v
  | .bit, .b, .mem (.dir a) => .bitbDir a
  | .bit, .b, .mem (.idx p) => .bitbIdx p
  | .bit, .b, .mem (.ext a) => .bitbExt a

/-- The rows of the 16-bit loads LDD LDX LDY LDU LDS. -/
def Instr.load16 : Wide → Src16 → Instr
  | .d, .imm v => .lddImm v
  | .d, .mem (.dir a) => .lddDir a
  | .d, .mem (.idx p) => .lddIdx p
  | .d, .mem (.ext a) => .lddExt a
  | .x, .imm v => .ldxImm v
  | .x, .mem (.dir a) => .ldxDir a
  | .x, .mem (.idx p) => .ldxIdx p
  | .x, .mem (.ext a) => .ldxExt a
  | .y, .imm v => .ldyImm v
  | .y, .mem (.dir a) => .ldyDir a
  | .y, .mem (.idx p) => .ldyIdx p
  | .y, .mem (.ext a) => .ldyExt a
  | .u, .imm v => .lduImm v
  | .u, .mem (.dir a) => .lduDir a
  | .u, .mem (.idx p) => .lduIdx p
  | .u, .mem (.ext a) => .lduExt a
  | .s, .imm v => .ldsImm v
  | .s, .mem (.dir a) => .ldsDir a
  | .s, .mem (.idx p) => .ldsIdx p
  | .s, .mem (.ext a) => .ldsExt a

/-- The rows of the 16-bit compares CMPD CMPX CMPY CMPU CMPS. -/
def Instr.cmp16 : Wide → Src16 → Instr
  | .d, .imm v => .cmpdImm v
  | .d, .mem (.dir a) => .cmpdDir a
  | .d, .mem (.idx p) => .cmpdIdx p
  | .d, .mem (.ext a) => .cmpdExt a
  | .x, .imm v => .cmpxImm v
  | .x, .mem (.dir a) => .cmpxDir a
  | .x, .mem (.idx p) => .cmpxIdx p
  | .x, .mem (.ext a) => .cmpxExt a
  | .y, .imm v => .cmpyImm v
  | .y, .mem (.dir a) => .cmpyDir a
  | .y, .mem (.idx p) => .cmpyIdx p
  | .y, .mem (.ext a) => .cmpyExt a
  | .u, .imm v => .cmpuImm v
  | .u, .mem (.dir a) => .cmpuDir a
  | .u, .mem (.idx p) => .cmpuIdx p
  | .u, .mem (.ext a) => .cmpuExt a
  | .s, .imm v => .cmpsImm v
  | .s, .mem (.dir a) => .cmpsDir a
  | .s, .mem (.idx p) => .cmpsIdx p
  | .s, .mem (.ext a) => .cmpsExt a

/-- The rows of ADDD. -/
def Instr.addD : Src16 → Instr
  | .imm v => .adddImm v
  | .mem (.dir a) => .adddDir a
  | .mem (.idx p) => .adddIdx p
  | .mem (.ext a) => .adddExt a

/-- The rows of SUBD. -/
def Instr.subD : Src16 → Instr
  | .imm v => .subdImm v
  | .mem (.dir a) => .subdDir a
  | .mem (.idx p) => .subdIdx p
  | .mem (.ext a) => .subdExt a

/-- The rows of STA STB. -/
def Instr.store8 : Acc → MemOp → Instr
  | .a, .dir a => .staDir a
  | .a, .idx p => .staIdx p
  | .a, .ext a => .staExt a
  | .b, .dir a => .stbDir a
  | .b, .idx p => .stbIdx p
  | .b, .ext a => .stbExt a

/-- The rows of STD STX STY STU STS. -/
def Instr.store16 : Wide → MemOp → Instr
  | .d, .dir a => .stdDir a
  | .d, .idx p => .stdIdx p
  | .d, .ext a => .stdExt a
  | .x, .dir a => .stxDir a
  | .x, .idx p => .stxIdx p
  | .x, .ext a => .stxExt a
  | .y, .dir a => .styDir a
  | .y, .idx p => .styIdx p
  | .y, .ext a => .styExt a
  | .u, .dir a => .stuDir a
  | .u, .idx p => .stuIdx p
  | .u, .ext a => .stuExt a
  | .s, .dir a => .stsDir a
  | .s, .idx p => .stsIdx p
  | .s, .ext a => .stsExt a

/-- LEAX LEAY LEAU LEAS. -/
def Instr.lea : IdxReg → Indexed → Instr
  | .x, p => .leax p
  | .y, p => .leay p
  | .s, p => .leas p
  | .u, p => .leau p

/-- The accumulator forms of the one-operand instructions (NEGA, LSRB, ...). -/
def Instr.un8Acc : Un8 → Acc → Instr
  | .neg, .a => .nega
  | .neg, .b => .negb
  | .inc, .a => .inca
  | .inc, .b => .incb
  | .dec, .a => .deca
  | .dec, .b => .decb
  | .clr, .a => .clra
  | .clr, .b => .clrb
  | .tst, .a => .tsta
  | .tst, .b => .tstb
  | .com, .a => .coma
  | .com, .b => .comb
  | .lsr, .a => .lsra
  | .lsr, .b => .lsrb
  | .asr, .a => .asra
  | .asr, .b => .asrb
  | .asl, .a => .asla
  | .asl, .b => .aslb
  | .rol, .a => .rola
  | .rol, .b => .rolb
  | .ror, .a => .rora
  | .ror, .b => .rorb

/-- The memory forms of the one-operand instructions (NEG, LSR, ...). -/
def Instr.un8Mem : Un8 → MemOp → Instr
  | .neg, .dir a => .negDir a
  | .neg, .idx p => .negIdx p
  | .neg, .ext a => .negExt a
  | .inc, .dir a => .incDir a
  | .inc, .idx p => .incIdx p
  | .inc, .ext a => .incExt a
  | .dec, .dir a => .decDir a
  | .dec, .idx p => .decIdx p
  | .dec, .ext a => .decExt a
  | .clr, .dir a => .clrDir a
  | .clr, .idx p => .clrIdx p
  | .clr, .ext a => .clrExt a
  | .tst, .dir a => .tstDir a
  | .tst, .idx p => .tstIdx p
  | .tst, .ext a => .tstExt a
  | .com, .dir a => .comDir a
  | .com, .idx p => .comIdx p
  | .com, .ext a => .comExt a
  | .lsr, .dir a => .lsrDir a
  | .lsr, .idx p => .lsrIdx p
  | .lsr, .ext a => .lsrExt a
  | .asr, .dir a => .asrDir a
  | .asr, .idx p => .asrIdx p
  | .asr, .ext a => .asrExt a
  | .asl, .dir a => .aslDir a
  | .asl, .idx p => .aslIdx p
  | .asl, .ext a => .aslExt a
  | .rol, .dir a => .rolDir a
  | .rol, .idx p => .rolIdx p
  | .rol, .ext a => .rolExt a
  | .ror, .dir a => .rorDir a
  | .ror, .idx p => .rorIdx p
  | .ror, .ext a => .rorExt a

/-- The sixteen short branches (44_branch.md R320). -/
def Instr.branch : Cond → Byte → Instr
  | .ra, o => .bra o
  | .rn, o => .brn o
  | .hi, o => .bhi o
  | .ls, o => .bls o
  | .cc, o => .bcc o
  | .cs, o => .bcs o
  | .ne, o => .bne o
  | .eq, o => .beq o
  | .vc, o => .bvc o
  | .vs, o => .bvs o
  | .pl, o => .bpl o
  | .mi, o => .bmi o
  | .ge, o => .bge o
  | .lt, o => .blt o
  | .gt, o => .bgt o
  | .le, o => .ble o

/-- The sixteen long branches (R320). -/
def Instr.longBranch : Cond → Word → Instr
  | .ra, o => .lbra o
  | .rn, o => .lbrn o
  | .hi, o => .lbhi o
  | .ls, o => .lbls o
  | .cc, o => .lbcc o
  | .cs, o => .lbcs o
  | .ne, o => .lbne o
  | .eq, o => .lbeq o
  | .vc, o => .lbvc o
  | .vs, o => .lbvs o
  | .pl, o => .lbpl o
  | .mi, o => .lbmi o
  | .ge, o => .lbge o
  | .lt, o => .lblt o
  | .gt, o => .lbgt o
  | .le, o => .lble o

/-- The rows of JMP. -/
def Instr.jump : MemOp → Instr
  | .dir a => .jmpDir a
  | .idx p => .jmpIdx p
  | .ext a => .jmpExt a

/-- The rows of JSR. -/
def Instr.jumpSub : MemOp → Instr
  | .dir a => .jsrDir a
  | .idx p => .jsrIdx p
  | .ext a => .jsrExt a

end Sys2Proof
end

