-- ==== Sys2Proof/WellFormed.lean ====
section
/-! DEFINITION. Which terms of Instr are instructions. The operand types of Syntax.lean leave one check: the two
registers of `TFR` and `EXG` have the same width (43_transfer_stack.md R300). -/

namespace Sys2Proof

/-- Both registers are 16 bits wide, or both are 8 bits wide (R300). -/
def Reg.sameWidth : Reg → Reg → Bool
  | .r16 _, .r16 _ => true
  | .r8 _, .r8 _ => true
  | _, _ => false

/-- The term is an instruction: it has an encoding the decoder accepts. -/
def Instr.wellFormed : Instr → Bool
  | .tfr r0 r1 => Reg.sameWidth r0 r1
  | .exg r0 r1 => Reg.sameWidth r0 r1
  | _ => true

end Sys2Proof
end

