-- ==== Sys2Proof/Decode.lean ====
section
/-! DEFINITION. The decoder (30_encoding.md R145), total on any bytes and rejecting by name, and after it the encoder.
Both are written from the opcode map of R140 to R142 and the postbyte rules R120 to R139. -/

namespace Sys2Proof

/-- Why bytes select no instruction (60_exceptions.md R401). -/
inductive DecodeError where
  /-- an undefined first byte (R143) -/
  | page1
  /-- an undefined second byte after 0x10, another page byte among them (R143, R144) -/
  | page2
  /-- an undefined second byte after 0x11, another page byte among them (R143, R144) -/
  | page3
  /-- an undefined indexed postbyte (R136) -/
  | postbyte
  /-- an undefined register code, or two registers of different widths (43_transfer_stack.md R300) -/
  | registerPair
deriving DecidableEq, Repr

/-- What bytes decode to. -/
inductive Decoded where
  /-- an instruction, and the bytes after it -/
  | instr (i : Instr) (rest : List Byte)
  /-- the bytes are the beginning of an instruction: one more has to be fetched -/
  | incomplete
  | invalid (why : DecodeError)
deriving DecidableEq, Repr

/-- An opcode's format (R112) and the constructor of its row: `byte` for IMM8, DIR, REL8 and STKPB, `word` for IMM16, EXT
and REL16. -/
inductive Form where
  | inh (i : Instr)
  | byte (f : Byte → Instr)
  | word (f : Word → Instr)
  | idx (f : Indexed → Instr)
  | regs (f : Reg → Reg → Instr)

/-- Page 1, opcodes `00` to `0F` (30_encoding.md R140). -/
def page1Row0 : List (Byte × Form) :=
  [(0x00#8, .byte .negDir),
   (0x03#8, .byte .comDir),
   (0x04#8, .byte .lsrDir),
   (0x06#8, .byte .rorDir),
   (0x07#8, .byte .asrDir),
   (0x08#8, .byte .aslDir),
   (0x09#8, .byte .rolDir),
   (0x0A#8, .byte .decDir),
   (0x0C#8, .byte .incDir),
   (0x0D#8, .byte .tstDir),
   (0x0E#8, .byte .jmpDir),
   (0x0F#8, .byte .clrDir)]

/-- Page 1, opcodes `10` to `1F` (30_encoding.md R140). -/
def page1Row1 : List (Byte × Form) :=
  [(0x12#8, .inh .nop),
   (0x13#8, .inh .sync),
   (0x16#8, .word .lbra),
   (0x17#8, .word .lbsr),
   (0x19#8, .inh .daa),
   (0x1A#8, .byte .orcc),
   (0x1C#8, .byte .andcc),
   (0x1D#8, .inh .sex),
   (0x1E#8, .regs .exg),
   (0x1F#8, .regs .tfr)]

/-- Page 1, opcodes `20` to `2F` (30_encoding.md R140). -/
def page1Row2 : List (Byte × Form) :=
  [(0x20#8, .byte .bra),
   (0x21#8, .byte .brn),
   (0x22#8, .byte .bhi),
   (0x23#8, .byte .bls),
   (0x24#8, .byte .bcc),
   (0x25#8, .byte .bcs),
   (0x26#8, .byte .bne),
   (0x27#8, .byte .beq),
   (0x28#8, .byte .bvc),
   (0x29#8, .byte .bvs),
   (0x2A#8, .byte .bpl),
   (0x2B#8, .byte .bmi),
   (0x2C#8, .byte .bge),
   (0x2D#8, .byte .blt),
   (0x2E#8, .byte .bgt),
   (0x2F#8, .byte .ble)]

/-- Page 1, opcodes `30` to `3F` (30_encoding.md R140). -/
def page1Row3 : List (Byte × Form) :=
  [(0x30#8, .idx .leax),
   (0x31#8, .idx .leay),
   (0x32#8, .idx .leas),
   (0x33#8, .idx .leau),
   (0x34#8, .byte .pshs),
   (0x35#8, .byte .puls),
   (0x36#8, .byte .pshu),
   (0x37#8, .byte .pulu),
   (0x39#8, .inh .rts),
   (0x3A#8, .inh .abx),
   (0x3B#8, .inh .rti),
   (0x3C#8, .byte .cwai),
   (0x3D#8, .inh .mul),
   (0x3F#8, .inh .swi)]

/-- Page 1, opcodes `40` to `4F` (30_encoding.md R140). -/
def page1Row4 : List (Byte × Form) :=
  [(0x40#8, .inh .nega),
   (0x43#8, .inh .coma),
   (0x44#8, .inh .lsra),
   (0x46#8, .inh .rora),
   (0x47#8, .inh .asra),
   (0x48#8, .inh .asla),
   (0x49#8, .inh .rola),
   (0x4A#8, .inh .deca),
   (0x4C#8, .inh .inca),
   (0x4D#8, .inh .tsta),
   (0x4F#8, .inh .clra)]

/-- Page 1, opcodes `50` to `5F` (30_encoding.md R140). -/
def page1Row5 : List (Byte × Form) :=
  [(0x50#8, .inh .negb),
   (0x53#8, .inh .comb),
   (0x54#8, .inh .lsrb),
   (0x56#8, .inh .rorb),
   (0x57#8, .inh .asrb),
   (0x58#8, .inh .aslb),
   (0x59#8, .inh .rolb),
   (0x5A#8, .inh .decb),
   (0x5C#8, .inh .incb),
   (0x5D#8, .inh .tstb),
   (0x5F#8, .inh .clrb)]

/-- Page 1, opcodes `60` to `6F` (30_encoding.md R140). -/
def page1Row6 : List (Byte × Form) :=
  [(0x60#8, .idx .negIdx),
   (0x63#8, .idx .comIdx),
   (0x64#8, .idx .lsrIdx),
   (0x66#8, .idx .rorIdx),
   (0x67#8, .idx .asrIdx),
   (0x68#8, .idx .aslIdx),
   (0x69#8, .idx .rolIdx),
   (0x6A#8, .idx .decIdx),
   (0x6C#8, .idx .incIdx),
   (0x6D#8, .idx .tstIdx),
   (0x6E#8, .idx .jmpIdx),
   (0x6F#8, .idx .clrIdx)]

/-- Page 1, opcodes `70` to `7F` (30_encoding.md R140). -/
def page1Row7 : List (Byte × Form) :=
  [(0x70#8, .word .negExt),
   (0x73#8, .word .comExt),
   (0x74#8, .word .lsrExt),
   (0x76#8, .word .rorExt),
   (0x77#8, .word .asrExt),
   (0x78#8, .word .aslExt),
   (0x79#8, .word .rolExt),
   (0x7A#8, .word .decExt),
   (0x7C#8, .word .incExt),
   (0x7D#8, .word .tstExt),
   (0x7E#8, .word .jmpExt),
   (0x7F#8, .word .clrExt)]

/-- Page 1, opcodes `80` to `8F` (30_encoding.md R140). -/
def page1Row8 : List (Byte × Form) :=
  [(0x80#8, .byte .subaImm),
   (0x81#8, .byte .cmpaImm),
   (0x82#8, .byte .sbcaImm),
   (0x83#8, .word .subdImm),
   (0x84#8, .byte .andaImm),
   (0x85#8, .byte .bitaImm),
   (0x86#8, .byte .ldaImm),
   (0x88#8, .byte .eoraImm),
   (0x89#8, .byte .adcaImm),
   (0x8A#8, .byte .oraImm),
   (0x8B#8, .byte .addaImm),
   (0x8C#8, .word .cmpxImm),
   (0x8D#8, .byte .bsr),
   (0x8E#8, .word .ldxImm)]

/-- Page 1, opcodes `90` to `9F` (30_encoding.md R140). -/
def page1Row9 : List (Byte × Form) :=
  [(0x90#8, .byte .subaDir),
   (0x91#8, .byte .cmpaDir),
   (0x92#8, .byte .sbcaDir),
   (0x93#8, .byte .subdDir),
   (0x94#8, .byte .andaDir),
   (0x95#8, .byte .bitaDir),
   (0x96#8, .byte .ldaDir),
   (0x97#8, .byte .staDir),
   (0x98#8, .byte .eoraDir),
   (0x99#8, .byte .adcaDir),
   (0x9A#8, .byte .oraDir),
   (0x9B#8, .byte .addaDir),
   (0x9C#8, .byte .cmpxDir),
   (0x9D#8, .byte .jsrDir),
   (0x9E#8, .byte .ldxDir),
   (0x9F#8, .byte .stxDir)]

/-- Page 1, opcodes `A0` to `AF` (30_encoding.md R140). -/
def page1RowA : List (Byte × Form) :=
  [(0xA0#8, .idx .subaIdx),
   (0xA1#8, .idx .cmpaIdx),
   (0xA2#8, .idx .sbcaIdx),
   (0xA3#8, .idx .subdIdx),
   (0xA4#8, .idx .andaIdx),
   (0xA5#8, .idx .bitaIdx),
   (0xA6#8, .idx .ldaIdx),
   (0xA7#8, .idx .staIdx),
   (0xA8#8, .idx .eoraIdx),
   (0xA9#8, .idx .adcaIdx),
   (0xAA#8, .idx .oraIdx),
   (0xAB#8, .idx .addaIdx),
   (0xAC#8, .idx .cmpxIdx),
   (0xAD#8, .idx .jsrIdx),
   (0xAE#8, .idx .ldxIdx),
   (0xAF#8, .idx .stxIdx)]

/-- Page 1, opcodes `B0` to `BF` (30_encoding.md R140). -/
def page1RowB : List (Byte × Form) :=
  [(0xB0#8, .word .subaExt),
   (0xB1#8, .word .cmpaExt),
   (0xB2#8, .word .sbcaExt),
   (0xB3#8, .word .subdExt),
   (0xB4#8, .word .andaExt),
   (0xB5#8, .word .bitaExt),
   (0xB6#8, .word .ldaExt),
   (0xB7#8, .word .staExt),
   (0xB8#8, .word .eoraExt),
   (0xB9#8, .word .adcaExt),
   (0xBA#8, .word .oraExt),
   (0xBB#8, .word .addaExt),
   (0xBC#8, .word .cmpxExt),
   (0xBD#8, .word .jsrExt),
   (0xBE#8, .word .ldxExt),
   (0xBF#8, .word .stxExt)]

/-- Page 1, opcodes `C0` to `CF` (30_encoding.md R140). -/
def page1RowC : List (Byte × Form) :=
  [(0xC0#8, .byte .subbImm),
   (0xC1#8, .byte .cmpbImm),
   (0xC2#8, .byte .sbcbImm),
   (0xC3#8, .word .adddImm),
   (0xC4#8, .byte .andbImm),
   (0xC5#8, .byte .bitbImm),
   (0xC6#8, .byte .ldbImm),
   (0xC8#8, .byte .eorbImm),
   (0xC9#8, .byte .adcbImm),
   (0xCA#8, .byte .orbImm),
   (0xCB#8, .byte .addbImm),
   (0xCC#8, .word .lddImm),
   (0xCE#8, .word .lduImm)]

/-- Page 1, opcodes `D0` to `DF` (30_encoding.md R140). -/
def page1RowD : List (Byte × Form) :=
  [(0xD0#8, .byte .subbDir),
   (0xD1#8, .byte .cmpbDir),
   (0xD2#8, .byte .sbcbDir),
   (0xD3#8, .byte .adddDir),
   (0xD4#8, .byte .andbDir),
   (0xD5#8, .byte .bitbDir),
   (0xD6#8, .byte .ldbDir),
   (0xD7#8, .byte .stbDir),
   (0xD8#8, .byte .eorbDir),
   (0xD9#8, .byte .adcbDir),
   (0xDA#8, .byte .orbDir),
   (0xDB#8, .byte .addbDir),
   (0xDC#8, .byte .lddDir),
   (0xDD#8, .byte .stdDir),
   (0xDE#8, .byte .lduDir),
   (0xDF#8, .byte .stuDir)]

/-- Page 1, opcodes `E0` to `EF` (30_encoding.md R140). -/
def page1RowE : List (Byte × Form) :=
  [(0xE0#8, .idx .subbIdx),
   (0xE1#8, .idx .cmpbIdx),
   (0xE2#8, .idx .sbcbIdx),
   (0xE3#8, .idx .adddIdx),
   (0xE4#8, .idx .andbIdx),
   (0xE5#8, .idx .bitbIdx),
   (0xE6#8, .idx .ldbIdx),
   (0xE7#8, .idx .stbIdx),
   (0xE8#8, .idx .eorbIdx),
   (0xE9#8, .idx .adcbIdx),
   (0xEA#8, .idx .orbIdx),
   (0xEB#8, .idx .addbIdx),
   (0xEC#8, .idx .lddIdx),
   (0xED#8, .idx .stdIdx),
   (0xEE#8, .idx .lduIdx),
   (0xEF#8, .idx .stuIdx)]

/-- Page 1, opcodes `F0` to `FF` (30_encoding.md R140). -/
def page1RowF : List (Byte × Form) :=
  [(0xF0#8, .word .subbExt),
   (0xF1#8, .word .cmpbExt),
   (0xF2#8, .word .sbcbExt),
   (0xF3#8, .word .adddExt),
   (0xF4#8, .word .andbExt),
   (0xF5#8, .word .bitbExt),
   (0xF6#8, .word .ldbExt),
   (0xF7#8, .word .stbExt),
   (0xF8#8, .word .eorbExt),
   (0xF9#8, .word .adcbExt),
   (0xFA#8, .word .orbExt),
   (0xFB#8, .word .addbExt),
   (0xFC#8, .word .lddExt),
   (0xFD#8, .word .stdExt),
   (0xFE#8, .word .lduExt),
   (0xFF#8, .word .stuExt)]

/-- The opcode map of page 1 (R140): 221 opcodes. -/
def page1 : List (Byte × Form) :=
  page1Row0 ++ page1Row1 ++ page1Row2 ++ page1Row3 ++ page1Row4 ++ page1Row5 ++ page1Row6 ++ page1Row7 ++ page1Row8 ++ page1Row9 ++ page1RowA ++ page1RowB ++ page1RowC ++ page1RowD ++ page1RowE ++ page1RowF

/-- Page 2, opcodes `20` to `2F` (30_encoding.md R141). -/
def page2Row2 : List (Byte × Form) :=
  [(0x21#8, .word .lbrn),
   (0x22#8, .word .lbhi),
   (0x23#8, .word .lbls),
   (0x24#8, .word .lbcc),
   (0x25#8, .word .lbcs),
   (0x26#8, .word .lbne),
   (0x27#8, .word .lbeq),
   (0x28#8, .word .lbvc),
   (0x29#8, .word .lbvs),
   (0x2A#8, .word .lbpl),
   (0x2B#8, .word .lbmi),
   (0x2C#8, .word .lbge),
   (0x2D#8, .word .lblt),
   (0x2E#8, .word .lbgt),
   (0x2F#8, .word .lble)]

/-- Page 2, opcodes `30` to `3F` (30_encoding.md R141). -/
def page2Row3 : List (Byte × Form) :=
  [(0x3F#8, .inh .swi2)]

/-- Page 2, opcodes `80` to `8F` (30_encoding.md R141). -/
def page2Row8 : List (Byte × Form) :=
  [(0x83#8, .word .cmpdImm),
   (0x8C#8, .word .cmpyImm),
   (0x8E#8, .word .ldyImm)]

/-- Page 2, opcodes `90` to `9F` (30_encoding.md R141). -/
def page2Row9 : List (Byte × Form) :=
  [(0x93#8, .byte .cmpdDir),
   (0x9C#8, .byte .cmpyDir),
   (0x9E#8, .byte .ldyDir),
   (0x9F#8, .byte .styDir)]

/-- Page 2, opcodes `A0` to `AF` (30_encoding.md R141). -/
def page2RowA : List (Byte × Form) :=
  [(0xA3#8, .idx .cmpdIdx),
   (0xAC#8, .idx .cmpyIdx),
   (0xAE#8, .idx .ldyIdx),
   (0xAF#8, .idx .styIdx)]

/-- Page 2, opcodes `B0` to `BF` (30_encoding.md R141). -/
def page2RowB : List (Byte × Form) :=
  [(0xB3#8, .word .cmpdExt),
   (0xBC#8, .word .cmpyExt),
   (0xBE#8, .word .ldyExt),
   (0xBF#8, .word .styExt)]

/-- Page 2, opcodes `C0` to `CF` (30_encoding.md R141). -/
def page2RowC : List (Byte × Form) :=
  [(0xCE#8, .word .ldsImm)]

/-- Page 2, opcodes `D0` to `DF` (30_encoding.md R141). -/
def page2RowD : List (Byte × Form) :=
  [(0xDE#8, .byte .ldsDir),
   (0xDF#8, .byte .stsDir)]

/-- Page 2, opcodes `E0` to `EF` (30_encoding.md R141). -/
def page2RowE : List (Byte × Form) :=
  [(0xEE#8, .idx .ldsIdx),
   (0xEF#8, .idx .stsIdx)]

/-- Page 2, opcodes `F0` to `FF` (30_encoding.md R141). -/
def page2RowF : List (Byte × Form) :=
  [(0xFE#8, .word .ldsExt),
   (0xFF#8, .word .stsExt)]

/-- The opcode map of page 2 (R141): 38 opcodes. -/
def page2 : List (Byte × Form) :=
  page2Row2 ++ page2Row3 ++ page2Row8 ++ page2Row9 ++ page2RowA ++ page2RowB ++ page2RowC ++ page2RowD ++ page2RowE ++ page2RowF

/-- Page 3, opcodes `30` to `3F` (30_encoding.md R142). -/
def page3Row3 : List (Byte × Form) :=
  [(0x3F#8, .inh .swi3)]

/-- Page 3, opcodes `80` to `8F` (30_encoding.md R142). -/
def page3Row8 : List (Byte × Form) :=
  [(0x83#8, .word .cmpuImm),
   (0x8C#8, .word .cmpsImm)]

/-- Page 3, opcodes `90` to `9F` (30_encoding.md R142). -/
def page3Row9 : List (Byte × Form) :=
  [(0x93#8, .byte .cmpuDir),
   (0x9C#8, .byte .cmpsDir)]

/-- Page 3, opcodes `A0` to `AF` (30_encoding.md R142). -/
def page3RowA : List (Byte × Form) :=
  [(0xA3#8, .idx .cmpuIdx),
   (0xAC#8, .idx .cmpsIdx)]

/-- Page 3, opcodes `B0` to `BF` (30_encoding.md R142). -/
def page3RowB : List (Byte × Form) :=
  [(0xB3#8, .word .cmpuExt),
   (0xBC#8, .word .cmpsExt)]

/-- The opcode map of page 3 (R142): 9 opcodes. -/
def page3 : List (Byte × Form) :=
  page3Row3 ++ page3Row8 ++ page3Row9 ++ page3RowA ++ page3RowB

/-- The form of an opcode in a page's map. -/
def lookupForm : List (Byte × Form) → Byte → Option Form
  | [], _ => none
  | (k, f) :: rows, b => if k = b then some f else lookupForm rows b

/-- The base register of a postbyte's `RR` field (R120). -/
def idxRegOf (rr : BitVec 2) : IdxReg :=
  if rr = 0b00#2 then .x else if rr = 0b01#2 then .y else if rr = 0b10#2 then .u else .s

/-- What the bytes of an indexed operand decode to. -/
inductive DecodedIndexed where
  | ok (p : Indexed) (rest : List Byte)
  | incomplete
  | invalid
deriving DecidableEq, Repr

/-- A mode with no extension byte. -/
def idxDone (p : Indexed) (bs : List Byte) : DecodedIndexed := .ok p bs

/-- A mode with one extension byte. -/
def idxByte (f : Byte → Indexed) : List Byte → DecodedIndexed
  | [] => .incomplete
  | n :: bs => .ok (f n) bs

/-- A mode with two extension bytes, high byte first. -/
def idxWord (f : Word → Indexed) : List Byte → DecodedIndexed
  | hi :: lo :: bs => .ok (f (word hi lo)) bs
  | _ => .incomplete

/-- Postbyte layout B, `pb[7] = 1`: the mode number, the `RR` field and the indirection bit (R120, R122 to R136). -/
def decodeLayoutB (mode : Nat) (rr : BitVec 2) (ind : Bool) (bs : List Byte) : DecodedIndexed :=
  let r := idxRegOf rr
  match mode with
  | 0 => if ind then .invalid else idxDone (.inc1 r) bs
  | 1 => idxDone (.inc2 r ind) bs
  | 2 => if ind then .invalid else idxDone (.dec1 r) bs
  | 3 => idxDone (.dec2 r ind) bs
  | 4 => idxDone (.zero r ind) bs
  | 5 => idxDone (.accB r ind) bs
  | 6 => idxDone (.accA r ind) bs
  | 8 => idxByte (.off8 r ind) bs
  | 9 => idxWord (.off16 r ind) bs
  | 11 => idxDone (.accD r ind) bs
  | 12 => idxByte (.pc8 r ind) bs
  | 13 => idxWord (.pc16 r ind) bs
  | 15 => if ind && rr == 0b00#2 then idxWord .extInd bs else .invalid
  | _ => .invalid

/-- The postbyte and its extension bytes (R120 to R136). An undefined postbyte is refused before any extension byte. -/
def decodeIndexed : List Byte → DecodedIndexed
  | [] => .incomplete
  | pb :: bs =>
    if pb.getLsbD 7 then
      decodeLayoutB (pb.extractLsb' 0 4).toNat (pb.extractLsb' 5 2) (pb.getLsbD 4) bs
    else .ok (.off5 (idxRegOf (pb.extractLsb' 5 2)) (pb.extractLsb' 0 5)) bs

/-- The register of a 4-bit code (R138, 43_transfer_stack.md R300). -/
def regOf (code : BitVec 4) : Option Reg :=
  match code.toNat with
  | 0 => some (.r16 .d)
  | 1 => some (.r16 .x)
  | 2 => some (.r16 .y)
  | 3 => some (.r16 .u)
  | 4 => some (.r16 .s)
  | 5 => some (.r16 .pc)
  | 8 => some (.r8 .a)
  | 9 => some (.r8 .b)
  | 10 => some (.r8 .cc)
  | 11 => some (.r8 .dp)
  | _ => none

/-- The postbyte of `TFR` and `EXG`: both codes defined and of one width (R300). -/
def decodeRegs (f : Reg → Reg → Instr) (pb : Byte) (bs : List Byte) : Decoded :=
  match regOf (hiNibble pb), regOf (loNibble pb) with
  | some r0, some r1 => if Reg.sameWidth r0 r1 then .instr (f r0 r1) bs else .invalid .registerPair
  | _, _ => .invalid .registerPair

/-- The operand bytes of an opcode's format (R113 to R120, R138, R139). -/
def decodeOperand : Form → List Byte → Decoded
  | .inh i, bs => .instr i bs
  | .byte f, v :: bs => .instr (f v) bs
  | .word f, hi :: lo :: bs => .instr (f (word hi lo)) bs
  | .idx f, bs =>
    match decodeIndexed bs with
    | .ok p rest => .instr (f p) rest
    | .incomplete => .incomplete
    | .invalid => .invalid .postbyte
  | .regs f, pb :: bs => decodeRegs f pb bs
  | _, _ => .incomplete

/-- The opcode byte looked up in its page, then its operand bytes. -/
def decodePage (rows : List (Byte × Form)) (err : DecodeError) : List Byte → Decoded
  | [] => .incomplete
  | b :: bs =>
    match lookupForm rows b with
    | some f => decodeOperand f bs
    | none => .invalid err

/-- The decoder (R111, R145): a first byte 0x10 or 0x11 selects page 2 or page 3, any other first byte is the opcode. -/
def decode : List Byte → Decoded
  | [] => .incomplete
  | b :: bs =>
    if b = 0x10#8 then decodePage page2 .page2 bs
    else if b = 0x11#8 then decodePage page3 .page3 bs
    else decodePage page1 .page1 (b :: bs)

/-- The `RR` field of a base register (R120). -/
def IdxReg.code : IdxReg → BitVec 2
  | .x => 0b00#2
  | .y => 0b01#2
  | .u => 0b10#2
  | .s => 0b11#2

/-- A postbyte of layout B (R120). -/
def layoutB (r : IdxReg) (ind : Bool) (mode : BitVec 4) : Byte :=
  (0b1#1 ++ r.code ++ BitVec.ofBool ind ++ mode : BitVec (1 + 2 + 1 + 4))

/-- The postbyte of an indexed operand (R121 to R135). -/
def Indexed.postbyte : Indexed → Byte
  | .off5 r n => (0b0#1 ++ r.code ++ n : BitVec (1 + 2 + 5))
  | .inc1 r => layoutB r false 0b0000#4
  | .inc2 r ind => layoutB r ind 0b0001#4
  | .dec1 r => layoutB r false 0b0010#4
  | .dec2 r ind => layoutB r ind 0b0011#4
  | .zero r ind => layoutB r ind 0b0100#4
  | .accB r ind => layoutB r ind 0b0101#4
  | .accA r ind => layoutB r ind 0b0110#4
  | .off8 r ind _ => layoutB r ind 0b1000#4
  | .off16 r ind _ => layoutB r ind 0b1001#4
  | .accD r ind => layoutB r ind 0b1011#4
  | .pc8 rr ind _ => layoutB rr ind 0b1100#4
  | .pc16 rr ind _ => layoutB rr ind 0b1101#4
  | .extInd _ => layoutB .x true 0b1111#4

/-- The postbyte and its extension bytes. -/
def Indexed.bytes (p : Indexed) : List Byte :=
  match p with
  | .off8 _ _ n => [p.postbyte, n]
  | .pc8 _ _ n => [p.postbyte, n]
  | .off16 _ _ n => [p.postbyte, hiByte n, loByte n]
  | .pc16 _ _ n => [p.postbyte, hiByte n, loByte n]
  | .extInd n => [p.postbyte, hiByte n, loByte n]
  | _ => [p.postbyte]

/-- The 4-bit code of a register (R138). -/
def Reg.code : Reg → BitVec 4
  | .r16 .d => 0x0#4
  | .r16 .x => 0x1#4
  | .r16 .y => 0x2#4
  | .r16 .u => 0x3#4
  | .r16 .s => 0x4#4
  | .r16 .pc => 0x5#4
  | .r8 .a => 0x8#4
  | .r8 .b => 0x9#4
  | .r8 .cc => 0xA#4
  | .r8 .dp => 0xB#4

/-- The postbyte of `TFR r0,r1` and `EXG r0,r1` (R138). -/
def regPostbyte (r0 r1 : Reg) : Byte := (r0.code ++ r1.code : BitVec (4 + 4))

/-- The bytes of an instruction (30_encoding.md R110 to R112, R140 to R142). -/
def encode : Instr → List Byte
  | .ldaImm v => [0x86, v]
  | .ldaDir a => [0x96, a]
  | .ldaIdx p => 0xA6 :: p.bytes
  | .ldaExt a => [0xB6, hiByte a, loByte a]
  | .ldbImm v => [0xC6, v]
  | .ldbDir a => [0xD6, a]
  | .ldbIdx p => 0xE6 :: p.bytes
  | .ldbExt a => [0xF6, hiByte a, loByte a]
  | .lddImm v => [0xCC, hiByte v, loByte v]
  | .lddDir a => [0xDC, a]
  | .lddIdx p => 0xEC :: p.bytes
  | .lddExt a => [0xFC, hiByte a, loByte a]
  | .ldxImm v => [0x8E, hiByte v, loByte v]
  | .ldxDir a => [0x9E, a]
  | .ldxIdx p => 0xAE :: p.bytes
  | .ldxExt a => [0xBE, hiByte a, loByte a]
  | .ldyImm v => [0x10, 0x8E, hiByte v, loByte v]
  | .ldyDir a => [0x10, 0x9E, a]
  | .ldyIdx p => 0x10 :: 0xAE :: p.bytes
  | .ldyExt a => [0x10, 0xBE, hiByte a, loByte a]
  | .lduImm v => [0xCE, hiByte v, loByte v]
  | .lduDir a => [0xDE, a]
  | .lduIdx p => 0xEE :: p.bytes
  | .lduExt a => [0xFE, hiByte a, loByte a]
  | .ldsImm v => [0x10, 0xCE, hiByte v, loByte v]
  | .ldsDir a => [0x10, 0xDE, a]
  | .ldsIdx p => 0x10 :: 0xEE :: p.bytes
  | .ldsExt a => [0x10, 0xFE, hiByte a, loByte a]
  | .staDir a => [0x97, a]
  | .staIdx p => 0xA7 :: p.bytes
  | .staExt a => [0xB7, hiByte a, loByte a]
  | .stbDir a => [0xD7, a]
  | .stbIdx p => 0xE7 :: p.bytes
  | .stbExt a => [0xF7, hiByte a, loByte a]
  | .stdDir a => [0xDD, a]
  | .stdIdx p => 0xED :: p.bytes
  | .stdExt a => [0xFD, hiByte a, loByte a]
  | .stxDir a => [0x9F, a]
  | .stxIdx p => 0xAF :: p.bytes
  | .stxExt a => [0xBF, hiByte a, loByte a]
  | .styDir a => [0x10, 0x9F, a]
  | .styIdx p => 0x10 :: 0xAF :: p.bytes
  | .styExt a => [0x10, 0xBF, hiByte a, loByte a]
  | .stuDir a => [0xDF, a]
  | .stuIdx p => 0xEF :: p.bytes
  | .stuExt a => [0xFF, hiByte a, loByte a]
  | .stsDir a => [0x10, 0xDF, a]
  | .stsIdx p => 0x10 :: 0xEF :: p.bytes
  | .stsExt a => [0x10, 0xFF, hiByte a, loByte a]
  | .leax p => 0x30 :: p.bytes
  | .leay p => 0x31 :: p.bytes
  | .leas p => 0x32 :: p.bytes
  | .leau p => 0x33 :: p.bytes
  | .addaImm v => [0x8B, v]
  | .addaDir a => [0x9B, a]
  | .addaIdx p => 0xAB :: p.bytes
  | .addaExt a => [0xBB, hiByte a, loByte a]
  | .addbImm v => [0xCB, v]
  | .addbDir a => [0xDB, a]
  | .addbIdx p => 0xEB :: p.bytes
  | .addbExt a => [0xFB, hiByte a, loByte a]
  | .adcaImm v => [0x89, v]
  | .adcaDir a => [0x99, a]
  | .adcaIdx p => 0xA9 :: p.bytes
  | .adcaExt a => [0xB9, hiByte a, loByte a]
  | .adcbImm v => [0xC9, v]
  | .adcbDir a => [0xD9, a]
  | .adcbIdx p => 0xE9 :: p.bytes
  | .adcbExt a => [0xF9, hiByte a, loByte a]
  | .subaImm v => [0x80, v]
  | .subaDir a => [0x90, a]
  | .subaIdx p => 0xA0 :: p.bytes
  | .subaExt a => [0xB0, hiByte a, loByte a]
  | .subbImm v => [0xC0, v]
  | .subbDir a => [0xD0, a]
  | .subbIdx p => 0xE0 :: p.bytes
  | .subbExt a => [0xF0, hiByte a, loByte a]
  | .sbcaImm v => [0x82, v]
  | .sbcaDir a => [0x92, a]
  | .sbcaIdx p => 0xA2 :: p.bytes
  | .sbcaExt a => [0xB2, hiByte a, loByte a]
  | .sbcbImm v => [0xC2, v]
  | .sbcbDir a => [0xD2, a]
  | .sbcbIdx p => 0xE2 :: p.bytes
  | .sbcbExt a => [0xF2, hiByte a, loByte a]
  | .cmpaImm v => [0x81, v]
  | .cmpaDir a => [0x91, a]
  | .cmpaIdx p => 0xA1 :: p.bytes
  | .cmpaExt a => [0xB1, hiByte a, loByte a]
  | .cmpbImm v => [0xC1, v]
  | .cmpbDir a => [0xD1, a]
  | .cmpbIdx p => 0xE1 :: p.bytes
  | .cmpbExt a => [0xF1, hiByte a, loByte a]
  | .adddImm v => [0xC3, hiByte v, loByte v]
  | .adddDir a => [0xD3, a]
  | .adddIdx p => 0xE3 :: p.bytes
  | .adddExt a => [0xF3, hiByte a, loByte a]
  | .subdImm v => [0x83, hiByte v, loByte v]
  | .subdDir a => [0x93, a]
  | .subdIdx p => 0xA3 :: p.bytes
  | .subdExt a => [0xB3, hiByte a, loByte a]
  | .cmpdImm v => [0x10, 0x83, hiByte v, loByte v]
  | .cmpdDir a => [0x10, 0x93, a]
  | .cmpdIdx p => 0x10 :: 0xA3 :: p.bytes
  | .cmpdExt a => [0x10, 0xB3, hiByte a, loByte a]
  | .cmpxImm v => [0x8C, hiByte v, loByte v]
  | .cmpxDir a => [0x9C, a]
  | .cmpxIdx p => 0xAC :: p.bytes
  | .cmpxExt a => [0xBC, hiByte a, loByte a]
  | .cmpyImm v => [0x10, 0x8C, hiByte v, loByte v]
  | .cmpyDir a => [0x10, 0x9C, a]
  | .cmpyIdx p => 0x10 :: 0xAC :: p.bytes
  | .cmpyExt a => [0x10, 0xBC, hiByte a, loByte a]
  | .cmpuImm v => [0x11, 0x83, hiByte v, loByte v]
  | .cmpuDir a => [0x11, 0x93, a]
  | .cmpuIdx p => 0x11 :: 0xA3 :: p.bytes
  | .cmpuExt a => [0x11, 0xB3, hiByte a, loByte a]
  | .cmpsImm v => [0x11, 0x8C, hiByte v, loByte v]
  | .cmpsDir a => [0x11, 0x9C, a]
  | .cmpsIdx p => 0x11 :: 0xAC :: p.bytes
  | .cmpsExt a => [0x11, 0xBC, hiByte a, loByte a]
  | .nega => [0x40]
  | .negb => [0x50]
  | .negDir a => [0x00, a]
  | .negIdx p => 0x60 :: p.bytes
  | .negExt a => [0x70, hiByte a, loByte a]
  | .inca => [0x4C]
  | .incb => [0x5C]
  | .incDir a => [0x0C, a]
  | .incIdx p => 0x6C :: p.bytes
  | .incExt a => [0x7C, hiByte a, loByte a]
  | .deca => [0x4A]
  | .decb => [0x5A]
  | .decDir a => [0x0A, a]
  | .decIdx p => 0x6A :: p.bytes
  | .decExt a => [0x7A, hiByte a, loByte a]
  | .clra => [0x4F]
  | .clrb => [0x5F]
  | .clrDir a => [0x0F, a]
  | .clrIdx p => 0x6F :: p.bytes
  | .clrExt a => [0x7F, hiByte a, loByte a]
  | .tsta => [0x4D]
  | .tstb => [0x5D]
  | .tstDir a => [0x0D, a]
  | .tstIdx p => 0x6D :: p.bytes
  | .tstExt a => [0x7D, hiByte a, loByte a]
  | .mul => [0x3D]
  | .daa => [0x19]
  | .sex => [0x1D]
  | .abx => [0x3A]
  | .andaImm v => [0x84, v]
  | .andaDir a => [0x94, a]
  | .andaIdx p => 0xA4 :: p.bytes
  | .andaExt a => [0xB4, hiByte a, loByte a]
  | .andbImm v => [0xC4, v]
  | .andbDir a => [0xD4, a]
  | .andbIdx p => 0xE4 :: p.bytes
  | .andbExt a => [0xF4, hiByte a, loByte a]
  | .oraImm v => [0x8A, v]
  | .oraDir a => [0x9A, a]
  | .oraIdx p => 0xAA :: p.bytes
  | .oraExt a => [0xBA, hiByte a, loByte a]
  | .orbImm v => [0xCA, v]
  | .orbDir a => [0xDA, a]
  | .orbIdx p => 0xEA :: p.bytes
  | .orbExt a => [0xFA, hiByte a, loByte a]
  | .eoraImm v => [0x88, v]
  | .eoraDir a => [0x98, a]
  | .eoraIdx p => 0xA8 :: p.bytes
  | .eoraExt a => [0xB8, hiByte a, loByte a]
  | .eorbImm v => [0xC8, v]
  | .eorbDir a => [0xD8, a]
  | .eorbIdx p => 0xE8 :: p.bytes
  | .eorbExt a => [0xF8, hiByte a, loByte a]
  | .bitaImm v => [0x85, v]
  | .bitaDir a => [0x95, a]
  | .bitaIdx p => 0xA5 :: p.bytes
  | .bitaExt a => [0xB5, hiByte a, loByte a]
  | .bitbImm v => [0xC5, v]
  | .bitbDir a => [0xD5, a]
  | .bitbIdx p => 0xE5 :: p.bytes
  | .bitbExt a => [0xF5, hiByte a, loByte a]
  | .coma => [0x43]
  | .comb => [0x53]
  | .comDir a => [0x03, a]
  | .comIdx p => 0x63 :: p.bytes
  | .comExt a => [0x73, hiByte a, loByte a]
  | .andcc v => [0x1C, v]
  | .orcc v => [0x1A, v]
  | .lsra => [0x44]
  | .lsrb => [0x54]
  | .lsrDir a => [0x04, a]
  | .lsrIdx p => 0x64 :: p.bytes
  | .lsrExt a => [0x74, hiByte a, loByte a]
  | .asra => [0x47]
  | .asrb => [0x57]
  | .asrDir a => [0x07, a]
  | .asrIdx p => 0x67 :: p.bytes
  | .asrExt a => [0x77, hiByte a, loByte a]
  | .asla => [0x48]
  | .aslb => [0x58]
  | .aslDir a => [0x08, a]
  | .aslIdx p => 0x68 :: p.bytes
  | .aslExt a => [0x78, hiByte a, loByte a]
  | .rola => [0x49]
  | .rolb => [0x59]
  | .rolDir a => [0x09, a]
  | .rolIdx p => 0x69 :: p.bytes
  | .rolExt a => [0x79, hiByte a, loByte a]
  | .rora => [0x46]
  | .rorb => [0x56]
  | .rorDir a => [0x06, a]
  | .rorIdx p => 0x66 :: p.bytes
  | .rorExt a => [0x76, hiByte a, loByte a]
  | .tfr r0 r1 => [0x1F, regPostbyte r0 r1]
  | .exg r0 r1 => [0x1E, regPostbyte r0 r1]
  | .pshs m => [0x34, m]
  | .puls m => [0x35, m]
  | .pshu m => [0x36, m]
  | .pulu m => [0x37, m]
  | .bra o => [0x20, o]
  | .brn o => [0x21, o]
  | .bhi o => [0x22, o]
  | .bls o => [0x23, o]
  | .bcc o => [0x24, o]
  | .bcs o => [0x25, o]
  | .bne o => [0x26, o]
  | .beq o => [0x27, o]
  | .bvc o => [0x28, o]
  | .bvs o => [0x29, o]
  | .bpl o => [0x2A, o]
  | .bmi o => [0x2B, o]
  | .bge o => [0x2C, o]
  | .blt o => [0x2D, o]
  | .bgt o => [0x2E, o]
  | .ble o => [0x2F, o]
  | .lbra o => [0x16, hiByte o, loByte o]
  | .lbrn o => [0x10, 0x21, hiByte o, loByte o]
  | .lbhi o => [0x10, 0x22, hiByte o, loByte o]
  | .lbls o => [0x10, 0x23, hiByte o, loByte o]
  | .lbcc o => [0x10, 0x24, hiByte o, loByte o]
  | .lbcs o => [0x10, 0x25, hiByte o, loByte o]
  | .lbne o => [0x10, 0x26, hiByte o, loByte o]
  | .lbeq o => [0x10, 0x27, hiByte o, loByte o]
  | .lbvc o => [0x10, 0x28, hiByte o, loByte o]
  | .lbvs o => [0x10, 0x29, hiByte o, loByte o]
  | .lbpl o => [0x10, 0x2A, hiByte o, loByte o]
  | .lbmi o => [0x10, 0x2B, hiByte o, loByte o]
  | .lbge o => [0x10, 0x2C, hiByte o, loByte o]
  | .lblt o => [0x10, 0x2D, hiByte o, loByte o]
  | .lbgt o => [0x10, 0x2E, hiByte o, loByte o]
  | .lble o => [0x10, 0x2F, hiByte o, loByte o]
  | .bsr o => [0x8D, o]
  | .lbsr o => [0x17, hiByte o, loByte o]
  | .jmpDir a => [0x0E, a]
  | .jmpIdx p => 0x6E :: p.bytes
  | .jmpExt a => [0x7E, hiByte a, loByte a]
  | .jsrDir a => [0x9D, a]
  | .jsrIdx p => 0xAD :: p.bytes
  | .jsrExt a => [0xBD, hiByte a, loByte a]
  | .rts => [0x39]
  | .nop => [0x12]
  | .swi => [0x3F]
  | .swi2 => [0x10, 0x3F]
  | .swi3 => [0x11, 0x3F]
  | .rti => [0x3B]
  | .cwai v => [0x3C, v]
  | .sync => [0x13]

/-- The longest instruction, in bytes (R110). -/
def maxLength : Nat := 5

/-- `n` bytes of a number, least significant first. -/
def bytesLE : Nat → Nat → List Byte
  | 0, _ => []
  | n + 1, w => BitVec.ofNat 8 w :: bytesLE n (w / 256)

/-- The bytes, in address order and filled up with zeros, of an instruction whose first `nbits` bits the opcode table
numbers as `w`. A page-1 row is one byte. A page-2 or page-3 row's number is the 16-bit `page byte ++ opcode` (R112), so
its more significant byte is the first one; the page byte is put first whichever end of the number it stands at (log
entry 19). -/
def tableBytes (nbits w : Nat) : List Byte :=
  match bytesLE (nbits / 8) w with
  | [lo, hi] => if hi = 0x10#8 || hi = 0x11#8 then [hi, lo, 0, 0, 0] else [lo, hi, 0, 0, 0]
  | bs => bs ++ List.replicate (maxLength - bs.length) 0

/-- The instruction the decoder reads from a row's bits. -/
def decodeTableWord (nbits w : Nat) : Option Instr :=
  match decode (tableBytes nbits w) with
  | .instr i _ => some i
  | _ => none

end Sys2Proof
end

