-- ==== Sys2Proof/Machine/Cycles.lean ====
section
/-! DEFINITION. Looking up `CYCLES` (30_encoding.md R150, R151). -/

namespace Sys2Proof

/-- The `cycles` column of an opcode. -/
def CycleTable.opcode (t : CycleTable) (key : Nat) : Nat := (t.base.lookup key).getD 0

/-- An instruction's opcode as the `match` column of the opcode table has it: the page byte, when there is one, and the
opcode byte (R112, R140 to R142). -/
def Instr.opcode (i : Instr) : Nat :=
  match encode i with
  | op :: rest => if op = 0x10#8 || op = 0x11#8 then op.toNat * 256 + (rest.headD 0).toNat else op.toNat
  | [] => 0

/-- The addend of a postbyte (R151). -/
def CycleTable.indexed (t : CycleTable) (pb : Byte) : Nat := t.postbyte.getD pb.toNat 0

/-- The cycles an indexed operand adds. -/
def Indexed.addend (p : Indexed) (s : Machine.State) : Nat := s.cfg.cycles.indexed p.postbyte

namespace Machine

/-- No addend. -/
def noAddend (_ : State) : Nat := 0

/-- The bytes a stack postbyte moves: one for each 8-bit register, two for each 16-bit one (30_encoding.md R139). -/
def stackBytes (m : Byte) : Nat :=
  (m.getLsbD 0).toNat + (m.getLsbD 1).toNat + (m.getLsbD 2).toNat + (m.getLsbD 3).toNat +
    2 * ((m.getLsbD 4).toNat + (m.getLsbD 5).toNat + (m.getLsbD 6).toNat + (m.getLsbD 7).toNat)

/-- `PSHS PULS PSHU PULU`: the cycles of the bytes moved. -/
def stackAddend (m : Byte) (s : State) : Nat := s.cfg.cycles.perByte * stackBytes m

end Machine

end Sys2Proof
end

