-- ==== Sys2Proof/Machine/Flags.lean ====
section
/-! DEFINITION. The ALU and every flag computation (41_arithmetic.md R200 to R203, 42_logic_shift.md R260 and the
instruction rules of both files), as functions of the operands and the flags before. A flag a rule does not list keeps
its value (10_state.md R36). -/

namespace Sys2Proof.Machine

/-- The result of an 8-bit addition or subtraction with its flag values; `h` has no meaning for a subtraction. -/
structure Alu8 where
  r : Byte
  h : Bool
  n : Bool
  z : Bool
  v : Bool
  c : Bool
deriving DecidableEq, Repr

/-- The result of a 16-bit addition or subtraction with its flag values. -/
structure Alu16 where
  r : Word
  n : Bool
  z : Bool
  v : Bool
  c : Bool
deriving DecidableEq, Repr

/-- `add8(a, b, cin)` (R200): the sum in the integers, then its low byte and the flags. -/
def add8 (a b : Byte) (cin : Bool) : Alu8 :=
  let t := a.toNat + b.toNat + cin.toNat
  let r := BitVec.ofNat 8 t
  { r := r
    h := (a ^^^ b ^^^ r).getLsbD 4
    n := r.getLsbD 7
    z := decide (r = 0#8)
    v := ((a ^^^ r) &&& (b ^^^ r)).getLsbD 7
    c := decide (t > 255) }

/-- `sub8(a, b, bin)` (R201): the difference in the integers; the carry is the borrow. -/
def sub8 (a b : Byte) (bin : Bool) : Alu8 :=
  let t : Int := (a.toNat : Int) - (b.toNat : Int) - (bin.toNat : Int)
  let r := BitVec.ofInt 8 t
  { r := r
    h := false
    n := r.getLsbD 7
    z := decide (r = 0#8)
    v := ((a ^^^ b) &&& (a ^^^ r)).getLsbD 7
    c := decide (t < 0) }

/-- `add16(a, b)` (R202). -/
def add16 (a b : Word) : Alu16 :=
  let t := a.toNat + b.toNat
  let r := BitVec.ofNat 16 t
  { r := r
    n := r.getLsbD 15
    z := decide (r = 0#16)
    v := ((a ^^^ r) &&& (b ^^^ r)).getLsbD 15
    c := decide (t > 65535) }

/-- `sub16(a, b)` (R203). -/
def sub16 (a b : Word) : Alu16 :=
  let t : Int := (a.toNat : Int) - (b.toNat : Int)
  let r := BitVec.ofInt 16 t
  { r := r
    n := r.getLsbD 15
    z := decide (r = 0#16)
    v := ((a ^^^ b) &&& (a ^^^ r)).getLsbD 15
    c := decide (t < 0) }

/-- `logic8(r)` (R260), also the flags of the 8-bit loads, stores and tests: N and Z from the byte, V cleared. -/
def CC.logic8 (cc : CC) (r : Byte) : CC :=
  { cc with n := r.getLsbD 7, z := decide (r = 0#8), v := false }

/-- The flags of the 16-bit loads and stores (40_load_store.md R163 to R174). -/
def CC.logic16 (cc : CC) (r : Word) : CC :=
  { cc with n := r.getLsbD 15, z := decide (r = 0#16), v := false }

/-- H, N, Z, V, C from an addition (R204). -/
def CC.ofAdd8 (cc : CC) (x : Alu8) : CC :=
  { cc with h := x.h, n := x.n, z := x.z, v := x.v, c := x.c }

/-- N, Z, V, C from a subtraction, and H the free value `undefH(op, a, b, bin, CC.H)` (R201, U1; log entry 8). -/
def CC.ofSub8 (cc : CC) (op : HOp) (a b : Byte) (bin : Bool) (x : Alu8) : CC :=
  { cc with h := Config.undefH op a b bin cc.h, n := x.n, z := x.z, v := x.v, c := x.c }

/-- N, Z, V, C from a 16-bit operation; H unaffected (R202, R203). -/
def CC.of16 (cc : CC) (x : Alu16) : CC :=
  { cc with n := x.n, z := x.z, v := x.v, c := x.c }

/-- The accumulator's value. -/
def Core.acc (c : Core) : Acc → Byte
  | .a => c.a
  | .b => c.b

/-- The core with the accumulator replaced. -/
def Core.setAcc (c : Core) : Acc → Byte → Core
  | .a, v => { c with a := v }
  | .b, v => { c with b := v }

/-- The core with its flags replaced. -/
def Core.setCC (c : Core) (cc : CC) : Core := { c with cc := cc }

end Sys2Proof.Machine

namespace Sys2Proof

open Machine

/-- An 8-bit operation of an accumulator and the operand `m`: LD (40_load_store.md R161), ADD ADC SUB SBC CMP
(41_arithmetic.md R204 to R213), AND OR EOR BIT (42_logic_shift.md R261 to R268). -/
def Bin8.apply (o : Bin8) (r : Acc) (m : Byte) (c : Core) : Core :=
  let x := c.acc r
  match o with
  | .ld => (c.setAcc r m).setCC (c.cc.logic8 m)
  | .add => (c.setAcc r (add8 x m false).r).setCC (c.cc.ofAdd8 (add8 x m false))
  | .adc => (c.setAcc r (add8 x m c.cc.c).r).setCC (c.cc.ofAdd8 (add8 x m c.cc.c))
  | .sub => (c.setAcc r (sub8 x m false).r).setCC (c.cc.ofSub8 .sub x m false (sub8 x m false))
  | .sbc => (c.setAcc r (sub8 x m c.cc.c).r).setCC (c.cc.ofSub8 .sbc x m c.cc.c (sub8 x m c.cc.c))
  | .cmp => c.setCC (c.cc.ofSub8 .cmp x m false (sub8 x m false))
  | .and => (c.setAcc r (x &&& m)).setCC (c.cc.logic8 (x &&& m))
  | .or => (c.setAcc r (x ||| m)).setCC (c.cc.logic8 (x ||| m))
  | .eor => (c.setAcc r (x ^^^ m)).setCC (c.cc.logic8 (x ^^^ m))
  | .bit => c.setCC (c.cc.logic8 (x &&& m))

/-- The result of a one-operand operation on `m` (41_arithmetic.md R221 to R232, 42_logic_shift.md R269 to R288); `TST`
has no result and keeps `m`. -/
def Un8.result (o : Un8) (cc : CC) (m : Byte) : Byte :=
  match o with
  | .neg => (sub8 0x00#8 m false).r
  | .com => ~~~m
  | .lsr => m >>> 1
  | .ror => (BitVec.ofBool cc.c ++ m.extractLsb' 1 7 : BitVec (1 + 7))
  | .asr => (BitVec.ofBool (m.getLsbD 7) ++ m.extractLsb' 1 7 : BitVec (1 + 7))
  | .asl => m <<< 1
  | .rol => (m.extractLsb' 0 7 ++ BitVec.ofBool cc.c : BitVec (7 + 1))
  | .dec => m - 1#8
  | .inc => m + 1#8
  | .tst => m
  | .clr => 0x00#8

/-- What a one-operand operation on `m` writes to the flags before it writes its result: `NEG` its H, the free value
(41_arithmetic.md R221 to R223, U1; log entry 8). -/
def Un8.flagsBefore (o : Un8) (cc : CC) (m : Byte) : CC :=
  match o with
  | .neg => { cc with h := Config.undefH .neg 0x00#8 m false cc.h }
  | _ => cc

/-- What a one-operand operation on `m` writes to the flags after it has written its result. -/
def Un8.flagsAfter (o : Un8) (cc : CC) (m : Byte) : CC :=
  let r := o.result cc m
  let nz := { cc with n := r.getLsbD 7, z := decide (r = 0#8) }
  let d := sub8 0x00#8 m false
  match o with
  | .neg => { cc with n := d.n, z := d.z, v := d.v, c := d.c }
  | .com => { nz with v := false, c := true }
  | .lsr => { nz with n := false, c := m.getLsbD 0 }
  | .ror => { nz with c := m.getLsbD 0 }
  | .asr => { nz with c := m.getLsbD 0, h := Config.undefH .asr m 0x00#8 false cc.h }
  | .asl =>
    { nz with
      v := m.getLsbD 7 ^^ m.getLsbD 6
      c := m.getLsbD 7
      h := Config.undefH .asl m 0x00#8 false cc.h }
  | .rol => { nz with v := m.getLsbD 7 ^^ m.getLsbD 6, c := m.getLsbD 7 }
  | .dec => { nz with v := decide (m = 0x80#8) }
  | .inc => { nz with v := decide (m = 0x7F#8) }
  | .tst => { nz with v := false }
  | .clr => { cc with n := false, z := true, v := false, c := false }

/-- The flags after a one-operand operation on `m`. -/
def Un8.flags (o : Un8) (cc : CC) (m : Byte) : CC := o.flagsAfter (o.flagsBefore cc m) m

/-- Whether the operation writes its operand back: all but `TST` (R235, R289). -/
def Un8.writes : Un8 → Bool
  | .tst => false
  | _ => true

end Sys2Proof

namespace Sys2Proof.Machine

/-- `DAA`'s correction of A: 0x06 for the low digit, 0x60 for the high one (41_arithmetic.md R237). -/
def daaCorrection (a : Byte) (cc : CC) : Byte :=
  let lsn := a.toNat % 16
  let msn := a.toNat / 16
  (if lsn > 9 || cc.h then 0x06#8 else 0x00#8) |||
    (if msn > 9 || cc.c || (decide (msn > 8) && decide (lsn > 9)) then 0x60#8 else 0x00#8)

/-- `DAA` (R237): V is the free value `undefV_DAA(a_old, cc_old)` (U2; log entry 9). -/
def Core.daa (c : Core) : Core :=
  let t := c.a.toNat + (daaCorrection c.a c.cc).toNat
  let r := BitVec.ofNat 8 t
  { c with
    a := r
    cc := { c.cc with
      n := r.getLsbD 7
      z := decide (r = 0#8)
      v := Config.undefVDaa c.a c.cc.toByte
      c := c.cc.c || decide (t > 255) } }

/-- `MUL` (R236). -/
def Core.mul (c : Core) : Core :=
  let p : Word := BitVec.ofNat 16 (c.a.toNat * c.b.toNat)
  { c with
    a := hiByte p
    b := loByte p
    cc := { c.cc with z := decide (p = 0#16), c := p.getLsbD 7 } }

/-- `SEX` (R238): V unaffected. -/
def Core.sex (c : Core) : Core :=
  { c with
    a := if c.b.getLsbD 7 then 0xFF#8 else 0x00#8
    cc := { c.cc with n := c.b.getLsbD 7, z := decide (c.b = 0#8) } }

/-- `ABX` (R239). -/
def Core.abx (c : Core) : Core := { c with x := c.x + zext8 c.b }

end Sys2Proof.Machine

namespace Sys2Proof

open Machine

/-- Whether a branch condition holds of the flags (44_branch.md R320). -/
def Cond.holds (k : Cond) (cc : CC) : Bool :=
  match k with
  | .ra => true
  | .rn => false
  | .hi => !(cc.c || cc.z)
  | .ls => cc.c || cc.z
  | .cc => !cc.c
  | .cs => cc.c
  | .ne => !cc.z
  | .eq => cc.z
  | .vc => !cc.v
  | .vs => cc.v
  | .pl => !cc.n
  | .mi => cc.n
  | .ge => !(cc.n ^^ cc.v)
  | .lt => cc.n ^^ cc.v
  | .gt => !(cc.z || (cc.n ^^ cc.v))
  | .le => cc.z || (cc.n ^^ cc.v)

end Sys2Proof

namespace Sys2Proof.Machine

/-- The byte's flags with every bit whose mask bit is 0 cleared (42_logic_shift.md R272, 45_system.md R375). -/
def CC.andMask (cc : CC) (m : Byte) : CC := CC.ofByte (cc.toByte &&& m)

/-- The byte's flags with every bit whose mask bit is 1 set (R273). -/
def CC.orMask (cc : CC) (m : Byte) : CC := CC.ofByte (cc.toByte ||| m)

end Sys2Proof.Machine
end

