-- ==== Sys2Proof/Machine/Ops.lean ====
section
/-! DEFINITION. The named operations of the instruction rules over registers and memory (00_scope.md R10): bus accesses
of the stepping core, fetches, pushes and pulls; entering an interrupt and returning from one; and what frames an
operation into a step. -/

namespace Sys2Proof.Machine

/-- The stepping core. -/
def getCore : Op Core := fun s => .ok s.core s

/-- One change of the stepping core. -/
def modifyCore (f : Core → Core) : Op Unit := fun s => .ok () (s.modCore f)

/-- `MemRead(addr, 1)` of the stepping core (20_memory.md R62). -/
def memRead8 (a : Word) : Op Byte := fun s => busRead s.active a.toNat s

/-- `MemWrite(addr, 1, v)` of the stepping core (R63). -/
def memWrite8 (a : Word) (v : Byte) : Op Unit := fun s => busWrite s.active a.toNat v s

/-- `MemRead(addr, 2)` (R64): two byte reads, the lower address first, the second wrapping. -/
def memRead16 (a : Word) : Op Word := do
  let hi ← memRead8 a
  let lo ← memRead8 (a + 1#16)
  pure (word hi lo)

/-- `MemWrite(addr, 2, v)` (R65). -/
def memWrite16 (a : Word) (v : Word) : Op Unit := do
  memWrite8 a (hiByte v)
  memWrite8 (a + 1#16) (loByte v)

/-- `Fetch8()` (R66). -/
def fetch8 : Op Byte := do
  let c ← getCore
  let v ← memRead8 c.pc
  modifyCore fun c => { c with pc := c.pc + 1#16 }
  pure v

/-- The two stack pointers (10_state.md R24). -/
inductive StackPtr where
  | s
  | u
deriving DecidableEq, Repr

/-- The stack pointer's value. -/
def Core.sp (c : Core) : StackPtr → Word
  | .s => c.s
  | .u => c.u

/-- The core with the stack pointer replaced. -/
def Core.setSp (c : Core) : StackPtr → Word → Core
  | .s, v => { c with s := v }
  | .u, v => { c with u := v }

/-- The other stack pointer, which bit 6 of a stack postbyte names (30_encoding.md R139). -/
def StackPtr.other : StackPtr → StackPtr
  | .s => .u
  | .u => .s

/-- `Push8(SP, v)` (R67): the pointer is decremented, then the byte is written. -/
def push8 (p : StackPtr) (v : Byte) : Op Unit := do
  modifyCore fun c => c.setSp p (c.sp p - 1#16)
  let c ← getCore
  memWrite8 (c.sp p) v

/-- `Push16(SP, v)` (R67): the low byte first. -/
def push16 (p : StackPtr) (v : Word) : Op Unit := do
  push8 p (loByte v)
  push8 p (hiByte v)

/-- `Pull8(SP)` (R68). -/
def pull8 (p : StackPtr) : Op Byte := do
  let c ← getCore
  let v ← memRead8 (c.sp p)
  modifyCore fun c => c.setSp p (c.sp p + 1#16)
  pure v

/-- `Pull16(SP)` (R68). -/
def pull16 (p : StackPtr) : Op Word := do
  let hi ← pull8 p
  let lo ← pull8 p
  pure (word hi lo)

/-- A write of `S` that arms the NMI when the core has one (60_exceptions.md R410). -/
def armNmi : Op Unit := fun s =>
  .ok () (s.modCore fun c => { c with nmiArmed := c.nmiArmed || s.cfg.hasNmi })

/-- `D`, the alias `A ++ B` (10_state.md R22). -/
def Core.d (c : Core) : Word := word c.a c.b

/-- `D <- v`. -/
def Core.setD (c : Core) (v : Word) : Core := { c with a := hiByte v, b := loByte v }

/-- A 16-bit register of `TFR` and `EXG` (43_transfer_stack.md R300). -/
def Core.get16 (c : Core) : Reg16 → Word
  | .d => c.d
  | .x => c.x
  | .y => c.y
  | .u => c.u
  | .s => c.s
  | .pc => c.pc

/-- The core with a 16-bit register replaced (R300). -/
def Core.set16 (c : Core) : Reg16 → Word → Core
  | .d, v => c.setD v
  | .x, v => { c with x := v }
  | .y, v => { c with y := v }
  | .u, v => { c with u := v }
  | .s, v => { c with s := v }
  | .pc, v => { c with pc := v }

/-- An 8-bit register of `TFR` and `EXG` (R300). -/
def Core.get8 (c : Core) : Reg8 → Byte
  | .a => c.a
  | .b => c.b
  | .cc => c.cc.toByte
  | .dp => c.dp

/-- The core with an 8-bit register replaced (R300). -/
def Core.set8 (c : Core) : Reg8 → Byte → Core
  | .a, v => { c with a := v }
  | .b, v => { c with b := v }
  | .cc, v => { c with cc := CC.ofByte v }
  | .dp, v => { c with dp := v }

/-- The register a 16-bit load, store or compare names. -/
def wideReg : Wide → Reg16
  | .d => .d
  | .x => .x
  | .y => .y
  | .u => .u
  | .s => .s

/-- The register a postbyte's `RR` field names (30_encoding.md R120). -/
def idxReg : IdxReg → Reg16
  | .x => .x
  | .y => .y
  | .u => .u
  | .s => .s

/-- A write of a 16-bit register by an instruction that loads it; a load of `S` arms the NMI (60_exceptions.md R410). -/
def loadReg (r : Reg16) (v : Word) : Op Unit := do
  modifyCore fun c => c.set16 r v
  match r with
  | .s => armNmi
  | _ => pure ()

/-- `PushAll` (45_system.md R378): twelve bytes on `S`. -/
def pushAll : Op Unit := do
  let c ← getCore
  push16 .s c.pc
  push16 .s c.u
  push16 .s c.y
  push16 .s c.x
  push8 .s c.dp
  push8 .s c.b
  push8 .s c.a
  push8 .s c.cc.toByte

/-- What an interrupt entry is entered by. -/
inductive Entry where
  | swi
  | swi2
  | swi3
  | irq
  | firq
  | nmi
deriving DecidableEq, Repr

/-- The entry's vector address (20_memory.md R88, 60_exceptions.md R415). -/
def Entry.vector : Entry → Word
  | .swi3 => 0xFFF2#16
  | .swi2 => 0xFFF4#16
  | .firq => 0xFFF6#16
  | .irq => 0xFFF8#16
  | .swi => 0xFFFA#16
  | .nmi => 0xFFFC#16

/-- Whether the entry stacks the entire register set: all but FIRQ (10_state.md R35). -/
def Entry.entire : Entry → Bool
  | .firq => false
  | _ => true

/-- Whether the entry sets I: all but SWI2 and SWI3 (R32). -/
def Entry.setsI : Entry → Bool
  | .swi2 => false
  | .swi3 => false
  | _ => true

/-- Whether the entry sets F: FIRQ, NMI and SWI (R34). -/
def Entry.setsF : Entry → Bool
  | .firq => true
  | .nmi => true
  | .swi => true
  | _ => false

/-- The latch an entry clears once the context is pushed (60_exceptions.md R426); a software interrupt touches none. -/
def Core.clearLatch (c : Core) : Entry → Core
  | .irq => { c with pendingIRQ := false }
  | .firq => { c with pendingFIRQ := false }
  | .nmi => { c with pendingNMI := false }
  | _ => c

/-- The service counter an entry advances (R425): IRQ and FIRQ only. -/
def Core.countService (c : Core) : Entry → Core
  | .irq => { c with irqCount := c.irqCount + 1 }
  | .firq => { c with firqCount := c.firqCount + 1 }
  | _ => c

/-- The masks an entry sets. -/
def Core.setMasks (c : Core) (k : Entry) : Core :=
  { c with cc := { c.cc with i := c.cc.i || k.setsI, f := c.cc.f || k.setsF } }

/-- The stacking half of an entry: E records how much is pushed, then the entire register set, or PC and CC for FIRQ
(R412 to R414, 45_system.md R371 to R373). -/
def stackContext (k : Entry) : Op Unit := do
  modifyCore fun c => { c with cc := { c.cc with e := k.entire } }
  if k.entire then pushAll
  else do
    let c ← getCore
    push16 .s c.pc
    push8 .s c.cc.toByte

/-- The vectoring half of an entry: the latch cleared, the masks set, the PC read from the vector, the service counted
(R412 to R415; alone when a core resumes from `CWAI`, R421). -/
def takeVector (k : Entry) : Op Unit := do
  modifyCore fun c => (c.clearLatch k).setMasks k
  let pc ← memRead16 k.vector
  modifyCore fun c => { c with pc := pc }.countService k

/-- Taking an interrupt: IRQ, FIRQ, NMI service (R412 to R414) and the software interrupts (45_system.md R371 to R373). -/
def enter (k : Entry) : Op Unit := do
  stackContext k
  takeVector k

/-- Returning from an interrupt, `RTI` (45_system.md R374): the E just pulled says how much more is pulled. -/
def returnFromInterrupt : Op Unit := do
  let cc ← pull8 .s
  modifyCore fun c => { c with cc := CC.ofByte cc }
  if (CC.ofByte cc).e then do
    let a ← pull8 .s
    let b ← pull8 .s
    let dp ← pull8 .s
    let x ← pull16 .s
    let y ← pull16 .s
    let u ← pull16 .s
    modifyCore fun c => { c with a := a, b := b, dp := dp, x := x, y := y, u := u }
  let pc ← pull16 .s
  modifyCore fun c => { c with pc := pc }

/-- What a step answers. -/
abbrev Out := Host.Outcome State Fault Refusal

/-- An operation as a step: its cycles are counted at the end; a step that ends in a fatal condition costs none
(60_exceptions.md R419). The cycles may depend on the state the operation leaves. -/
def runOp (cycles : State → Nat) (m : Op Unit) (s : State) : Out :=
  match m s with
  | .ok _ s' => .next (s'.tick (cycles s'))
  | .error _ s' => .next s'

/-- An instruction's operation as a step: the `cycles` column of its opcode and what its operand adds (30_encoding.md
R150). The state is the one after the fetch: the PC holds the address after the instruction's last byte (10_state.md
R25; log entry 7). -/
def perform (opcode : Nat) (addend : State → Nat) (m : Op Unit) (s : State) : Out :=
  runOp (fun s' => s'.cfg.cycles.opcode opcode + addend s') m s

end Sys2Proof.Machine
end

