-- ==== Sys2Proof/Machine/Operands.lean ====
section
/-! DEFINITION. Operand forms: effective addresses and operand reads (40_load_store.md R160, 30_encoding.md R113 to R137).
The instruction's bytes have been fetched, so PC is the address of the next instruction. -/

namespace Sys2Proof

open Machine

/-- The address an indexed operand's mode computes from the registers before the instruction's operation (R121 to R134):
the EA when the postbyte's indirection bit is 0, the address of the pointer when it is 1 (R135). -/
def Indexed.pointer (p : Indexed) (c : Core) : Word :=
  match p with
  | .off5 r n => c.get16 (idxReg r) + sext5 n
  | .inc1 r => c.get16 (idxReg r)
  | .inc2 r _ => c.get16 (idxReg r)
  | .dec1 r => c.get16 (idxReg r) - 1#16
  | .dec2 r _ => c.get16 (idxReg r) - 2#16
  | .zero r _ => c.get16 (idxReg r)
  | .accB r _ => c.get16 (idxReg r) + sext8 c.b
  | .accA r _ => c.get16 (idxReg r) + sext8 c.a
  | .off8 r _ n => c.get16 (idxReg r) + sext8 n
  | .off16 r _ n => c.get16 (idxReg r) + n
  | .accD r _ => c.get16 (idxReg r) + c.d
  | .pc8 _ _ n => c.pc + sext8 n
  | .pc16 _ _ n => c.pc + n
  | .extInd n => n

/-- The base register after the auto-increment and auto-decrement modes (R122 to R125); no other mode changes one. -/
def Indexed.update (p : Indexed) (c : Core) : Core :=
  match p with
  | .inc1 r => c.set16 (idxReg r) (c.get16 (idxReg r) + 1#16)
  | .inc2 r _ => c.set16 (idxReg r) (c.get16 (idxReg r) + 2#16)
  | .dec1 r => c.set16 (idxReg r) (c.get16 (idxReg r) - 1#16)
  | .dec2 r _ => c.set16 (idxReg r) (c.get16 (idxReg r) - 2#16)
  | _ => c

/-- The indirection bit (R120, R134, R135). -/
def Indexed.isIndirect : Indexed → Bool
  | .inc2 _ ind => ind
  | .dec2 _ ind => ind
  | .zero _ ind => ind
  | .accB _ ind => ind
  | .accA _ ind => ind
  | .off8 _ ind _ => ind
  | .off16 _ ind _ => ind
  | .accD _ ind => ind
  | .pc8 _ ind _ => ind
  | .pc16 _ ind _ => ind
  | .extInd _ => true
  | _ => false

end Sys2Proof

namespace Sys2Proof.Machine

/-- Indirection (R135): the EA is read at the pointer's address. -/
def indirect (ind : Bool) (a : Word) : Op Word := if ind then memRead16 a else pure a

/-- The EA of an indexed operand (R121 to R137): the address computed, the base register updated by the auto modes, then
the indirection. -/
def indexedEA (p : Indexed) : Op Word := do
  let c ← getCore
  modifyCore p.update
  indirect p.isIndirect (p.pointer c)

/-- `EA(mode)` (40_load_store.md R160): direct with DP (R116), indexed, extended. -/
def ea (m : MemOp) : Op Word :=
  match m with
  | .dir a => do
    let c ← getCore
    pure (word c.dp a)
  | .idx p => indexedEA p
  | .ext a => pure a

/-- `Operand8(mode)` (R160). -/
def operand8 (o : Src8) : Op Byte :=
  match o with
  | .imm v => pure v
  | .mem m => do
    let a ← ea m
    memRead8 a

/-- `Operand16(mode)` (R160). -/
def operand16 (o : Src16) : Op Word :=
  match o with
  | .imm v => pure v
  | .mem m => do
    let a ← ea m
    memRead16 a

/-- An 8-bit operation of an accumulator and an operand: the operand is read, then the registers and flags are written
(R160). -/
def bin8 (o : Bin8) (r : Acc) (src : Src8) : Op Unit := do
  let m ← operand8 src
  modifyCore (o.apply r m)

/-- A one-operand operation on an accumulator. -/
def un8Acc (o : Un8) (r : Acc) : Op Unit :=
  modifyCore fun c => (c.setAcc r (o.result c.cc (c.acc r))).setCC (o.flags c.cc (c.acc r))

/-- A one-operand operation on a memory byte: one read, one write of the same address, then the flags (42_logic_shift.md
R289), but for the H of `NEG`, which is written before the byte is (41_arithmetic.md R223); `TST` does not write, `CLR`
discards what it reads (R232, R235). -/
def un8Mem (o : Un8) (m : MemOp) : Op Unit := do
  let a ← ea m
  let v ← memRead8 a
  modifyCore fun c => c.setCC (o.flagsBefore c.cc v)
  let c ← getCore
  if o.writes then memWrite8 a (o.result c.cc v)
  modifyCore fun c => c.setCC (o.flagsAfter c.cc v)

end Sys2Proof.Machine
end

