-- ==== Sys2Proof/Machine/Arith.lean ====
section
/-! DEFINITION. Arithmetic instructions (41_arithmetic.md R204 to R239): the shared operations, then one
meaning for each row of the opcode table. -/

namespace Sys2Proof.Machine

/-- `ADDD` (R214). -/
def addD (src : Src16) : Op Unit := do
  let m ← operand16 src
  modifyCore fun c => (c.setD (add16 c.d m).r).setCC (c.cc.of16 (add16 c.d m))

/-- `SUBD` (R215). -/
def subD (src : Src16) : Op Unit := do
  let m ← operand16 src
  modifyCore fun c => (c.setD (sub16 c.d m).r).setCC (c.cc.of16 (sub16 c.d m))

/-- A 16-bit compare (R216 to R220). -/
def cmp16 (r : Wide) (src : Src16) : Op Unit := do
  let m ← operand16 src
  modifyCore fun c => c.setCC (c.cc.of16 (sub16 (c.get16 (wideReg r)) m))

/-- `MUL` (R236). -/
def mul : Op Unit := modifyCore Core.mul

/-- `DAA` (R237). -/
def daa : Op Unit := modifyCore Core.daa

/-- `SEX` (R238). -/
def sex : Op Unit := modifyCore Core.sex

/-- `ABX` (R239). -/
def abx : Op Unit := modifyCore Core.abx

/-- R204: ADDA, immediate. -/
def execAddaImm (v : Byte) (s : State) : Out :=
  perform 0x8B noAddend (bin8 .add .a (.imm v)) s

/-- R204: ADDA, direct. -/
def execAddaDir (a : Byte) (s : State) : Out :=
  perform 0x9B noAddend (bin8 .add .a (.mem (.dir a))) s

/-- R204: ADDA, indexed. -/
def execAddaIdx (p : Indexed) (s : State) : Out :=
  perform 0xAB p.addend (bin8 .add .a (.mem (.idx p))) s

/-- R204: ADDA, extended. -/
def execAddaExt (a : Word) (s : State) : Out :=
  perform 0xBB noAddend (bin8 .add .a (.mem (.ext a))) s

/-- R205: ADDB, immediate. -/
def execAddbImm (v : Byte) (s : State) : Out :=
  perform 0xCB noAddend (bin8 .add .b (.imm v)) s

/-- R205: ADDB, direct. -/
def execAddbDir (a : Byte) (s : State) : Out :=
  perform 0xDB noAddend (bin8 .add .b (.mem (.dir a))) s

/-- R205: ADDB, indexed. -/
def execAddbIdx (p : Indexed) (s : State) : Out :=
  perform 0xEB p.addend (bin8 .add .b (.mem (.idx p))) s

/-- R205: ADDB, extended. -/
def execAddbExt (a : Word) (s : State) : Out :=
  perform 0xFB noAddend (bin8 .add .b (.mem (.ext a))) s

/-- R206: ADCA, immediate. -/
def execAdcaImm (v : Byte) (s : State) : Out :=
  perform 0x89 noAddend (bin8 .adc .a (.imm v)) s

/-- R206: ADCA, direct. -/
def execAdcaDir (a : Byte) (s : State) : Out :=
  perform 0x99 noAddend (bin8 .adc .a (.mem (.dir a))) s

/-- R206: ADCA, indexed. -/
def execAdcaIdx (p : Indexed) (s : State) : Out :=
  perform 0xA9 p.addend (bin8 .adc .a (.mem (.idx p))) s

/-- R206: ADCA, extended. -/
def execAdcaExt (a : Word) (s : State) : Out :=
  perform 0xB9 noAddend (bin8 .adc .a (.mem (.ext a))) s

/-- R207: ADCB, immediate. -/
def execAdcbImm (v : Byte) (s : State) : Out :=
  perform 0xC9 noAddend (bin8 .adc .b (.imm v)) s

/-- R207: ADCB, direct. -/
def execAdcbDir (a : Byte) (s : State) : Out :=
  perform 0xD9 noAddend (bin8 .adc .b (.mem (.dir a))) s

/-- R207: ADCB, indexed. -/
def execAdcbIdx (p : Indexed) (s : State) : Out :=
  perform 0xE9 p.addend (bin8 .adc .b (.mem (.idx p))) s

/-- R207: ADCB, extended. -/
def execAdcbExt (a : Word) (s : State) : Out :=
  perform 0xF9 noAddend (bin8 .adc .b (.mem (.ext a))) s

/-- R208: SUBA, immediate. -/
def execSubaImm (v : Byte) (s : State) : Out :=
  perform 0x80 noAddend (bin8 .sub .a (.imm v)) s

/-- R208: SUBA, direct. -/
def execSubaDir (a : Byte) (s : State) : Out :=
  perform 0x90 noAddend (bin8 .sub .a (.mem (.dir a))) s

/-- R208: SUBA, indexed. -/
def execSubaIdx (p : Indexed) (s : State) : Out :=
  perform 0xA0 p.addend (bin8 .sub .a (.mem (.idx p))) s

/-- R208: SUBA, extended. -/
def execSubaExt (a : Word) (s : State) : Out :=
  perform 0xB0 noAddend (bin8 .sub .a (.mem (.ext a))) s

/-- R209: SUBB, immediate. -/
def execSubbImm (v : Byte) (s : State) : Out :=
  perform 0xC0 noAddend (bin8 .sub .b (.imm v)) s

/-- R209: SUBB, direct. -/
def execSubbDir (a : Byte) (s : State) : Out :=
  perform 0xD0 noAddend (bin8 .sub .b (.mem (.dir a))) s

/-- R209: SUBB, indexed. -/
def execSubbIdx (p : Indexed) (s : State) : Out :=
  perform 0xE0 p.addend (bin8 .sub .b (.mem (.idx p))) s

/-- R209: SUBB, extended. -/
def execSubbExt (a : Word) (s : State) : Out :=
  perform 0xF0 noAddend (bin8 .sub .b (.mem (.ext a))) s

/-- R210: SBCA, immediate. -/
def execSbcaImm (v : Byte) (s : State) : Out :=
  perform 0x82 noAddend (bin8 .sbc .a (.imm v)) s

/-- R210: SBCA, direct. -/
def execSbcaDir (a : Byte) (s : State) : Out :=
  perform 0x92 noAddend (bin8 .sbc .a (.mem (.dir a))) s

/-- R210: SBCA, indexed. -/
def execSbcaIdx (p : Indexed) (s : State) : Out :=
  perform 0xA2 p.addend (bin8 .sbc .a (.mem (.idx p))) s

/-- R210: SBCA, extended. -/
def execSbcaExt (a : Word) (s : State) : Out :=
  perform 0xB2 noAddend (bin8 .sbc .a (.mem (.ext a))) s

/-- R211: SBCB, immediate. -/
def execSbcbImm (v : Byte) (s : State) : Out :=
  perform 0xC2 noAddend (bin8 .sbc .b (.imm v)) s

/-- R211: SBCB, direct. -/
def execSbcbDir (a : Byte) (s : State) : Out :=
  perform 0xD2 noAddend (bin8 .sbc .b (.mem (.dir a))) s

/-- R211: SBCB, indexed. -/
def execSbcbIdx (p : Indexed) (s : State) : Out :=
  perform 0xE2 p.addend (bin8 .sbc .b (.mem (.idx p))) s

/-- R211: SBCB, extended. -/
def execSbcbExt (a : Word) (s : State) : Out :=
  perform 0xF2 noAddend (bin8 .sbc .b (.mem (.ext a))) s

/-- R212: CMPA, immediate. -/
def execCmpaImm (v : Byte) (s : State) : Out :=
  perform 0x81 noAddend (bin8 .cmp .a (.imm v)) s

/-- R212: CMPA, direct. -/
def execCmpaDir (a : Byte) (s : State) : Out :=
  perform 0x91 noAddend (bin8 .cmp .a (.mem (.dir a))) s

/-- R212: CMPA, indexed. -/
def execCmpaIdx (p : Indexed) (s : State) : Out :=
  perform 0xA1 p.addend (bin8 .cmp .a (.mem (.idx p))) s

/-- R212: CMPA, extended. -/
def execCmpaExt (a : Word) (s : State) : Out :=
  perform 0xB1 noAddend (bin8 .cmp .a (.mem (.ext a))) s

/-- R213: CMPB, immediate. -/
def execCmpbImm (v : Byte) (s : State) : Out :=
  perform 0xC1 noAddend (bin8 .cmp .b (.imm v)) s

/-- R213: CMPB, direct. -/
def execCmpbDir (a : Byte) (s : State) : Out :=
  perform 0xD1 noAddend (bin8 .cmp .b (.mem (.dir a))) s

/-- R213: CMPB, indexed. -/
def execCmpbIdx (p : Indexed) (s : State) : Out :=
  perform 0xE1 p.addend (bin8 .cmp .b (.mem (.idx p))) s

/-- R213: CMPB, extended. -/
def execCmpbExt (a : Word) (s : State) : Out :=
  perform 0xF1 noAddend (bin8 .cmp .b (.mem (.ext a))) s

/-- R214: ADDD, immediate. -/
def execAdddImm (v : Word) (s : State) : Out :=
  perform 0xC3 noAddend (addD (.imm v)) s

/-- R214: ADDD, direct. -/
def execAdddDir (a : Byte) (s : State) : Out :=
  perform 0xD3 noAddend (addD (.mem (.dir a))) s

/-- R214: ADDD, indexed. -/
def execAdddIdx (p : Indexed) (s : State) : Out :=
  perform 0xE3 p.addend (addD (.mem (.idx p))) s

/-- R214: ADDD, extended. -/
def execAdddExt (a : Word) (s : State) : Out :=
  perform 0xF3 noAddend (addD (.mem (.ext a))) s

/-- R215: SUBD, immediate. -/
def execSubdImm (v : Word) (s : State) : Out :=
  perform 0x83 noAddend (subD (.imm v)) s

/-- R215: SUBD, direct. -/
def execSubdDir (a : Byte) (s : State) : Out :=
  perform 0x93 noAddend (subD (.mem (.dir a))) s

/-- R215: SUBD, indexed. -/
def execSubdIdx (p : Indexed) (s : State) : Out :=
  perform 0xA3 p.addend (subD (.mem (.idx p))) s

/-- R215: SUBD, extended. -/
def execSubdExt (a : Word) (s : State) : Out :=
  perform 0xB3 noAddend (subD (.mem (.ext a))) s

/-- R216: CMPD, immediate. -/
def execCmpdImm (v : Word) (s : State) : Out :=
  perform 0x1083 noAddend (cmp16 .d (.imm v)) s

/-- R216: CMPD, direct. -/
def execCmpdDir (a : Byte) (s : State) : Out :=
  perform 0x1093 noAddend (cmp16 .d (.mem (.dir a))) s

/-- R216: CMPD, indexed. -/
def execCmpdIdx (p : Indexed) (s : State) : Out :=
  perform 0x10A3 p.addend (cmp16 .d (.mem (.idx p))) s

/-- R216: CMPD, extended. -/
def execCmpdExt (a : Word) (s : State) : Out :=
  perform 0x10B3 noAddend (cmp16 .d (.mem (.ext a))) s

/-- R217: CMPX, immediate. -/
def execCmpxImm (v : Word) (s : State) : Out :=
  perform 0x8C noAddend (cmp16 .x (.imm v)) s

/-- R217: CMPX, direct. -/
def execCmpxDir (a : Byte) (s : State) : Out :=
  perform 0x9C noAddend (cmp16 .x (.mem (.dir a))) s

/-- R217: CMPX, indexed. -/
def execCmpxIdx (p : Indexed) (s : State) : Out :=
  perform 0xAC p.addend (cmp16 .x (.mem (.idx p))) s

/-- R217: CMPX, extended. -/
def execCmpxExt (a : Word) (s : State) : Out :=
  perform 0xBC noAddend (cmp16 .x (.mem (.ext a))) s

/-- R218: CMPY, immediate. -/
def execCmpyImm (v : Word) (s : State) : Out :=
  perform 0x108C noAddend (cmp16 .y (.imm v)) s

/-- R218: CMPY, direct. -/
def execCmpyDir (a : Byte) (s : State) : Out :=
  perform 0x109C noAddend (cmp16 .y (.mem (.dir a))) s

/-- R218: CMPY, indexed. -/
def execCmpyIdx (p : Indexed) (s : State) : Out :=
  perform 0x10AC p.addend (cmp16 .y (.mem (.idx p))) s

/-- R218: CMPY, extended. -/
def execCmpyExt (a : Word) (s : State) : Out :=
  perform 0x10BC noAddend (cmp16 .y (.mem (.ext a))) s

/-- R219: CMPU, immediate. -/
def execCmpuImm (v : Word) (s : State) : Out :=
  perform 0x1183 noAddend (cmp16 .u (.imm v)) s

/-- R219: CMPU, direct. -/
def execCmpuDir (a : Byte) (s : State) : Out :=
  perform 0x1193 noAddend (cmp16 .u (.mem (.dir a))) s

/-- R219: CMPU, indexed. -/
def execCmpuIdx (p : Indexed) (s : State) : Out :=
  perform 0x11A3 p.addend (cmp16 .u (.mem (.idx p))) s

/-- R219: CMPU, extended. -/
def execCmpuExt (a : Word) (s : State) : Out :=
  perform 0x11B3 noAddend (cmp16 .u (.mem (.ext a))) s

/-- R220: CMPS, immediate. -/
def execCmpsImm (v : Word) (s : State) : Out :=
  perform 0x118C noAddend (cmp16 .s (.imm v)) s

/-- R220: CMPS, direct. -/
def execCmpsDir (a : Byte) (s : State) : Out :=
  perform 0x119C noAddend (cmp16 .s (.mem (.dir a))) s

/-- R220: CMPS, indexed. -/
def execCmpsIdx (p : Indexed) (s : State) : Out :=
  perform 0x11AC p.addend (cmp16 .s (.mem (.idx p))) s

/-- R220: CMPS, extended. -/
def execCmpsExt (a : Word) (s : State) : Out :=
  perform 0x11BC noAddend (cmp16 .s (.mem (.ext a))) s

/-- R221: NEGA, inherent. -/
def execNega (s : State) : Out :=
  perform 0x40 noAddend (un8Acc .neg .a) s

/-- R222: NEGB, inherent. -/
def execNegb (s : State) : Out :=
  perform 0x50 noAddend (un8Acc .neg .b) s

/-- R223: NEG, direct. -/
def execNegDir (a : Byte) (s : State) : Out :=
  perform 0x00 noAddend (un8Mem .neg (.dir a)) s

/-- R223: NEG, indexed. -/
def execNegIdx (p : Indexed) (s : State) : Out :=
  perform 0x60 p.addend (un8Mem .neg (.idx p)) s

/-- R223: NEG, extended. -/
def execNegExt (a : Word) (s : State) : Out :=
  perform 0x70 noAddend (un8Mem .neg (.ext a)) s

/-- R224: INCA, inherent. -/
def execInca (s : State) : Out :=
  perform 0x4C noAddend (un8Acc .inc .a) s

/-- R225: INCB, inherent. -/
def execIncb (s : State) : Out :=
  perform 0x5C noAddend (un8Acc .inc .b) s

/-- R226: INC, direct. -/
def execIncDir (a : Byte) (s : State) : Out :=
  perform 0x0C noAddend (un8Mem .inc (.dir a)) s

/-- R226: INC, indexed. -/
def execIncIdx (p : Indexed) (s : State) : Out :=
  perform 0x6C p.addend (un8Mem .inc (.idx p)) s

/-- R226: INC, extended. -/
def execIncExt (a : Word) (s : State) : Out :=
  perform 0x7C noAddend (un8Mem .inc (.ext a)) s

/-- R227: DECA, inherent. -/
def execDeca (s : State) : Out :=
  perform 0x4A noAddend (un8Acc .dec .a) s

/-- R228: DECB, inherent. -/
def execDecb (s : State) : Out :=
  perform 0x5A noAddend (un8Acc .dec .b) s

/-- R229: DEC, direct. -/
def execDecDir (a : Byte) (s : State) : Out :=
  perform 0x0A noAddend (un8Mem .dec (.dir a)) s

/-- R229: DEC, indexed. -/
def execDecIdx (p : Indexed) (s : State) : Out :=
  perform 0x6A p.addend (un8Mem .dec (.idx p)) s

/-- R229: DEC, extended. -/
def execDecExt (a : Word) (s : State) : Out :=
  perform 0x7A noAddend (un8Mem .dec (.ext a)) s

/-- R230: CLRA, inherent. -/
def execClra (s : State) : Out :=
  perform 0x4F noAddend (un8Acc .clr .a) s

/-- R231: CLRB, inherent. -/
def execClrb (s : State) : Out :=
  perform 0x5F noAddend (un8Acc .clr .b) s

/-- R232: CLR, direct. -/
def execClrDir (a : Byte) (s : State) : Out :=
  perform 0x0F noAddend (un8Mem .clr (.dir a)) s

/-- R232: CLR, indexed. -/
def execClrIdx (p : Indexed) (s : State) : Out :=
  perform 0x6F p.addend (un8Mem .clr (.idx p)) s

/-- R232: CLR, extended. -/
def execClrExt (a : Word) (s : State) : Out :=
  perform 0x7F noAddend (un8Mem .clr (.ext a)) s

/-- R233: TSTA, inherent. -/
def execTsta (s : State) : Out :=
  perform 0x4D noAddend (un8Acc .tst .a) s

/-- R234: TSTB, inherent. -/
def execTstb (s : State) : Out :=
  perform 0x5D noAddend (un8Acc .tst .b) s

/-- R235: TST, direct. -/
def execTstDir (a : Byte) (s : State) : Out :=
  perform 0x0D noAddend (un8Mem .tst (.dir a)) s

/-- R235: TST, indexed. -/
def execTstIdx (p : Indexed) (s : State) : Out :=
  perform 0x6D p.addend (un8Mem .tst (.idx p)) s

/-- R235: TST, extended. -/
def execTstExt (a : Word) (s : State) : Out :=
  perform 0x7D noAddend (un8Mem .tst (.ext a)) s

/-- R236: MUL, inherent. -/
def execMul (s : State) : Out :=
  perform 0x3D noAddend (mul) s

/-- R237: DAA, inherent. -/
def execDaa (s : State) : Out :=
  perform 0x19 noAddend (daa) s

/-- R238: SEX, inherent. -/
def execSex (s : State) : Out :=
  perform 0x1D noAddend (sex) s

/-- R239: ABX, inherent. -/
def execAbx (s : State) : Out :=
  perform 0x3A noAddend (abx) s

end Sys2Proof.Machine
end

