-- ==== Sys2Proof/Machine/Branch.lean ====
section
/-! DEFINITION. Branch, jump and subroutine instructions (44_branch.md R320 to R361): the shared operations, then one
meaning for each row of the opcode table. -/

namespace Sys2Proof.Machine

/-- A branch, short or long, by the offset `o` (R321 to R352): PC is the address of the next instruction. -/
def branch (k : Cond) (o : Word) : Op Unit :=
  modifyCore fun c => if k.holds c.cc then { c with pc := c.pc + o } else c

/-- A long conditional branch taken costs one cycle more (R361); a branch changes no flag, so the condition can be read
afterwards. -/
def takenAddend (k : Cond) (s : State) : Nat := if k.holds s.core.cc then s.cfg.cycles.longTaken else 0

/-- `BSR` and `LBSR` (R353, R354). -/
def branchSub (o : Word) : Op Unit := do
  let c ← getCore
  push16 .s c.pc
  modifyCore fun k => { k with pc := c.pc + o }

/-- `JMP` (R355). -/
def jump (m : MemOp) : Op Unit := do
  let a ← ea m
  modifyCore fun c => { c with pc := a }

/-- `JSR` (R356): the EA is computed before the push. -/
def jumpSub (m : MemOp) : Op Unit := do
  let a ← ea m
  let c ← getCore
  push16 .s c.pc
  modifyCore fun k => { k with pc := a }

/-- `RTS` (R357). -/
def returnSub : Op Unit := do
  let pc ← pull16 .s
  modifyCore fun c => { c with pc := pc }

/-- R321: BRA, relative. -/
def execBra (o : Byte) (s : State) : Out :=
  perform 0x20 noAddend (branch .ra (sext8 o)) s

/-- R322: BRN, relative. -/
def execBrn (o : Byte) (s : State) : Out :=
  perform 0x21 noAddend (branch .rn (sext8 o)) s

/-- R323: BHI, relative. -/
def execBhi (o : Byte) (s : State) : Out :=
  perform 0x22 noAddend (branch .hi (sext8 o)) s

/-- R324: BLS, relative. -/
def execBls (o : Byte) (s : State) : Out :=
  perform 0x23 noAddend (branch .ls (sext8 o)) s

/-- R325: BCC, relative. -/
def execBcc (o : Byte) (s : State) : Out :=
  perform 0x24 noAddend (branch .cc (sext8 o)) s

/-- R326: BCS, relative. -/
def execBcs (o : Byte) (s : State) : Out :=
  perform 0x25 noAddend (branch .cs (sext8 o)) s

/-- R327: BNE, relative. -/
def execBne (o : Byte) (s : State) : Out :=
  perform 0x26 noAddend (branch .ne (sext8 o)) s

/-- R328: BEQ, relative. -/
def execBeq (o : Byte) (s : State) : Out :=
  perform 0x27 noAddend (branch .eq (sext8 o)) s

/-- R329: BVC, relative. -/
def execBvc (o : Byte) (s : State) : Out :=
  perform 0x28 noAddend (branch .vc (sext8 o)) s

/-- R330: BVS, relative. -/
def execBvs (o : Byte) (s : State) : Out :=
  perform 0x29 noAddend (branch .vs (sext8 o)) s

/-- R331: BPL, relative. -/
def execBpl (o : Byte) (s : State) : Out :=
  perform 0x2A noAddend (branch .pl (sext8 o)) s

/-- R332: BMI, relative. -/
def execBmi (o : Byte) (s : State) : Out :=
  perform 0x2B noAddend (branch .mi (sext8 o)) s

/-- R333: BGE, relative. -/
def execBge (o : Byte) (s : State) : Out :=
  perform 0x2C noAddend (branch .ge (sext8 o)) s

/-- R334: BLT, relative. -/
def execBlt (o : Byte) (s : State) : Out :=
  perform 0x2D noAddend (branch .lt (sext8 o)) s

/-- R335: BGT, relative. -/
def execBgt (o : Byte) (s : State) : Out :=
  perform 0x2E noAddend (branch .gt (sext8 o)) s

/-- R336: BLE, relative. -/
def execBle (o : Byte) (s : State) : Out :=
  perform 0x2F noAddend (branch .le (sext8 o)) s

/-- R337: LBRA, long relative. -/
def execLbra (o : Word) (s : State) : Out :=
  perform 0x16 noAddend (branch .ra o) s

/-- R338: LBRN, long relative. -/
def execLbrn (o : Word) (s : State) : Out :=
  perform 0x1021 (takenAddend .rn) (branch .rn o) s

/-- R339: LBHI, long relative. -/
def execLbhi (o : Word) (s : State) : Out :=
  perform 0x1022 (takenAddend .hi) (branch .hi o) s

/-- R340: LBLS, long relative. -/
def execLbls (o : Word) (s : State) : Out :=
  perform 0x1023 (takenAddend .ls) (branch .ls o) s

/-- R341: LBCC, long relative. -/
def execLbcc (o : Word) (s : State) : Out :=
  perform 0x1024 (takenAddend .cc) (branch .cc o) s

/-- R342: LBCS, long relative. -/
def execLbcs (o : Word) (s : State) : Out :=
  perform 0x1025 (takenAddend .cs) (branch .cs o) s

/-- R343: LBNE, long relative. -/
def execLbne (o : Word) (s : State) : Out :=
  perform 0x1026 (takenAddend .ne) (branch .ne o) s

/-- R344: LBEQ, long relative. -/
def execLbeq (o : Word) (s : State) : Out :=
  perform 0x1027 (takenAddend .eq) (branch .eq o) s

/-- R345: LBVC, long relative. -/
def execLbvc (o : Word) (s : State) : Out :=
  perform 0x1028 (takenAddend .vc) (branch .vc o) s

/-- R346: LBVS, long relative. -/
def execLbvs (o : Word) (s : State) : Out :=
  perform 0x1029 (takenAddend .vs) (branch .vs o) s

/-- R347: LBPL, long relative. -/
def execLbpl (o : Word) (s : State) : Out :=
  perform 0x102A (takenAddend .pl) (branch .pl o) s

/-- R348: LBMI, long relative. -/
def execLbmi (o : Word) (s : State) : Out :=
  perform 0x102B (takenAddend .mi) (branch .mi o) s

/-- R349: LBGE, long relative. -/
def execLbge (o : Word) (s : State) : Out :=
  perform 0x102C (takenAddend .ge) (branch .ge o) s

/-- R350: LBLT, long relative. -/
def execLblt (o : Word) (s : State) : Out :=
  perform 0x102D (takenAddend .lt) (branch .lt o) s

/-- R351: LBGT, long relative. -/
def execLbgt (o : Word) (s : State) : Out :=
  perform 0x102E (takenAddend .gt) (branch .gt o) s

/-- R352: LBLE, long relative. -/
def execLble (o : Word) (s : State) : Out :=
  perform 0x102F (takenAddend .le) (branch .le o) s

/-- R353: BSR, relative. -/
def execBsr (o : Byte) (s : State) : Out :=
  perform 0x8D noAddend (branchSub (sext8 o)) s

/-- R354: LBSR, long relative. -/
def execLbsr (o : Word) (s : State) : Out :=
  perform 0x17 noAddend (branchSub o) s

/-- R355: JMP, direct. -/
def execJmpDir (a : Byte) (s : State) : Out :=
  perform 0x0E noAddend (jump (.dir a)) s

/-- R355: JMP, indexed. -/
def execJmpIdx (p : Indexed) (s : State) : Out :=
  perform 0x6E p.addend (jump (.idx p)) s

/-- R355: JMP, extended. -/
def execJmpExt (a : Word) (s : State) : Out :=
  perform 0x7E noAddend (jump (.ext a)) s

/-- R356: JSR, direct. -/
def execJsrDir (a : Byte) (s : State) : Out :=
  perform 0x9D noAddend (jumpSub (.dir a)) s

/-- R356: JSR, indexed. -/
def execJsrIdx (p : Indexed) (s : State) : Out :=
  perform 0xAD p.addend (jumpSub (.idx p)) s

/-- R356: JSR, extended. -/
def execJsrExt (a : Word) (s : State) : Out :=
  perform 0xBD noAddend (jumpSub (.ext a)) s

/-- R357: RTS, inherent. -/
def execRts (s : State) : Out :=
  perform 0x39 noAddend (returnSub) s

end Sys2Proof.Machine
end

