-- ==== Sys2Proof/Machine/LoadStore.lean ====
section
/-! DEFINITION. Load, store and load-effective-address instructions (40_load_store.md R161 to R178): the shared operations, then one
meaning for each row of the opcode table. -/

namespace Sys2Proof.Machine

/-- A 16-bit load (R163 to R167); a load of `S` arms the NMI (R167). -/
def load16 (r : Wide) (src : Src16) : Op Unit := do
  let m ← operand16 src
  loadReg (wideReg r) m
  modifyCore fun c => c.setCC (c.cc.logic16 m)

/-- An 8-bit store (R168, R169): the accumulator is read after the EA (30_encoding.md R137). -/
def store8 (r : Acc) (m : MemOp) : Op Unit := do
  let a ← ea m
  let c ← getCore
  memWrite8 a (c.acc r)
  modifyCore fun k => k.setCC (k.cc.logic8 (c.acc r))

/-- A 16-bit store (R170 to R174). -/
def store16 (r : Wide) (m : MemOp) : Op Unit := do
  let a ← ea m
  let c ← getCore
  memWrite16 a (c.get16 (wideReg r))
  modifyCore fun k => k.setCC (k.cc.logic16 (c.get16 (wideReg r)))

/-- Whether `LEA` writes Z: LEAX and LEAY do, LEAS and LEAU do not (R175 to R178). -/
def leaSetsZ : IdxReg → Bool
  | .x => true
  | .y => true
  | .u => false
  | .s => false

/-- Load effective address (R175 to R178); `LEAS` arms the NMI (R177). -/
def lea (r : IdxReg) (p : Indexed) : Op Unit := do
  let a ← indexedEA p
  loadReg (idxReg r) a
  modifyCore fun c => if leaSetsZ r then c.setCC { c.cc with z := decide (a = 0#16) } else c

/-- R161: LDA, immediate. -/
def execLdaImm (v : Byte) (s : State) : Out :=
  perform 0x86 noAddend (bin8 .ld .a (.imm v)) s

/-- R161: LDA, direct. -/
def execLdaDir (a : Byte) (s : State) : Out :=
  perform 0x96 noAddend (bin8 .ld .a (.mem (.dir a))) s

/-- R161: LDA, indexed. -/
def execLdaIdx (p : Indexed) (s : State) : Out :=
  perform 0xA6 p.addend (bin8 .ld .a (.mem (.idx p))) s

/-- R161: LDA, extended. -/
def execLdaExt (a : Word) (s : State) : Out :=
  perform 0xB6 noAddend (bin8 .ld .a (.mem (.ext a))) s

/-- R162: LDB, immediate. -/
def execLdbImm (v : Byte) (s : State) : Out :=
  perform 0xC6 noAddend (bin8 .ld .b (.imm v)) s

/-- R162: LDB, direct. -/
def execLdbDir (a : Byte) (s : State) : Out :=
  perform 0xD6 noAddend (bin8 .ld .b (.mem (.dir a))) s

/-- R162: LDB, indexed. -/
def execLdbIdx (p : Indexed) (s : State) : Out :=
  perform 0xE6 p.addend (bin8 .ld .b (.mem (.idx p))) s

/-- R162: LDB, extended. -/
def execLdbExt (a : Word) (s : State) : Out :=
  perform 0xF6 noAddend (bin8 .ld .b (.mem (.ext a))) s

/-- R163: LDD, immediate. -/
def execLddImm (v : Word) (s : State) : Out :=
  perform 0xCC noAddend (load16 .d (.imm v)) s

/-- R163: LDD, direct. -/
def execLddDir (a : Byte) (s : State) : Out :=
  perform 0xDC noAddend (load16 .d (.mem (.dir a))) s

/-- R163: LDD, indexed. -/
def execLddIdx (p : Indexed) (s : State) : Out :=
  perform 0xEC p.addend (load16 .d (.mem (.idx p))) s

/-- R163: LDD, extended. -/
def execLddExt (a : Word) (s : State) : Out :=
  perform 0xFC noAddend (load16 .d (.mem (.ext a))) s

/-- R164: LDX, immediate. -/
def execLdxImm (v : Word) (s : State) : Out :=
  perform 0x8E noAddend (load16 .x (.imm v)) s

/-- R164: LDX, direct. -/
def execLdxDir (a : Byte) (s : State) : Out :=
  perform 0x9E noAddend (load16 .x (.mem (.dir a))) s

/-- R164: LDX, indexed. -/
def execLdxIdx (p : Indexed) (s : State) : Out :=
  perform 0xAE p.addend (load16 .x (.mem (.idx p))) s

/-- R164: LDX, extended. -/
def execLdxExt (a : Word) (s : State) : Out :=
  perform 0xBE noAddend (load16 .x (.mem (.ext a))) s

/-- R165: LDY, immediate. -/
def execLdyImm (v : Word) (s : State) : Out :=
  perform 0x108E noAddend (load16 .y (.imm v)) s

/-- R165: LDY, direct. -/
def execLdyDir (a : Byte) (s : State) : Out :=
  perform 0x109E noAddend (load16 .y (.mem (.dir a))) s

/-- R165: LDY, indexed. -/
def execLdyIdx (p : Indexed) (s : State) : Out :=
  perform 0x10AE p.addend (load16 .y (.mem (.idx p))) s

/-- R165: LDY, extended. -/
def execLdyExt (a : Word) (s : State) : Out :=
  perform 0x10BE noAddend (load16 .y (.mem (.ext a))) s

/-- R166: LDU, immediate. -/
def execLduImm (v : Word) (s : State) : Out :=
  perform 0xCE noAddend (load16 .u (.imm v)) s

/-- R166: LDU, direct. -/
def execLduDir (a : Byte) (s : State) : Out :=
  perform 0xDE noAddend (load16 .u (.mem (.dir a))) s

/-- R166: LDU, indexed. -/
def execLduIdx (p : Indexed) (s : State) : Out :=
  perform 0xEE p.addend (load16 .u (.mem (.idx p))) s

/-- R166: LDU, extended. -/
def execLduExt (a : Word) (s : State) : Out :=
  perform 0xFE noAddend (load16 .u (.mem (.ext a))) s

/-- R167: LDS, immediate. -/
def execLdsImm (v : Word) (s : State) : Out :=
  perform 0x10CE noAddend (load16 .s (.imm v)) s

/-- R167: LDS, direct. -/
def execLdsDir (a : Byte) (s : State) : Out :=
  perform 0x10DE noAddend (load16 .s (.mem (.dir a))) s

/-- R167: LDS, indexed. -/
def execLdsIdx (p : Indexed) (s : State) : Out :=
  perform 0x10EE p.addend (load16 .s (.mem (.idx p))) s

/-- R167: LDS, extended. -/
def execLdsExt (a : Word) (s : State) : Out :=
  perform 0x10FE noAddend (load16 .s (.mem (.ext a))) s

/-- R168: STA, direct. -/
def execStaDir (a : Byte) (s : State) : Out :=
  perform 0x97 noAddend (store8 .a (.dir a)) s

/-- R168: STA, indexed. -/
def execStaIdx (p : Indexed) (s : State) : Out :=
  perform 0xA7 p.addend (store8 .a (.idx p)) s

/-- R168: STA, extended. -/
def execStaExt (a : Word) (s : State) : Out :=
  perform 0xB7 noAddend (store8 .a (.ext a)) s

/-- R169: STB, direct. -/
def execStbDir (a : Byte) (s : State) : Out :=
  perform 0xD7 noAddend (store8 .b (.dir a)) s

/-- R169: STB, indexed. -/
def execStbIdx (p : Indexed) (s : State) : Out :=
  perform 0xE7 p.addend (store8 .b (.idx p)) s

/-- R169: STB, extended. -/
def execStbExt (a : Word) (s : State) : Out :=
  perform 0xF7 noAddend (store8 .b (.ext a)) s

/-- R170: STD, direct. -/
def execStdDir (a : Byte) (s : State) : Out :=
  perform 0xDD noAddend (store16 .d (.dir a)) s

/-- R170: STD, indexed. -/
def execStdIdx (p : Indexed) (s : State) : Out :=
  perform 0xED p.addend (store16 .d (.idx p)) s

/-- R170: STD, extended. -/
def execStdExt (a : Word) (s : State) : Out :=
  perform 0xFD noAddend (store16 .d (.ext a)) s

/-- R171: STX, direct. -/
def execStxDir (a : Byte) (s : State) : Out :=
  perform 0x9F noAddend (store16 .x (.dir a)) s

/-- R171: STX, indexed. -/
def execStxIdx (p : Indexed) (s : State) : Out :=
  perform 0xAF p.addend (store16 .x (.idx p)) s

/-- R171: STX, extended. -/
def execStxExt (a : Word) (s : State) : Out :=
  perform 0xBF noAddend (store16 .x (.ext a)) s

/-- R172: STY, direct. -/
def execStyDir (a : Byte) (s : State) : Out :=
  perform 0x109F noAddend (store16 .y (.dir a)) s

/-- R172: STY, indexed. -/
def execStyIdx (p : Indexed) (s : State) : Out :=
  perform 0x10AF p.addend (store16 .y (.idx p)) s

/-- R172: STY, extended. -/
def execStyExt (a : Word) (s : State) : Out :=
  perform 0x10BF noAddend (store16 .y (.ext a)) s

/-- R173: STU, direct. -/
def execStuDir (a : Byte) (s : State) : Out :=
  perform 0xDF noAddend (store16 .u (.dir a)) s

/-- R173: STU, indexed. -/
def execStuIdx (p : Indexed) (s : State) : Out :=
  perform 0xEF p.addend (store16 .u (.idx p)) s

/-- R173: STU, extended. -/
def execStuExt (a : Word) (s : State) : Out :=
  perform 0xFF noAddend (store16 .u (.ext a)) s

/-- R174: STS, direct. -/
def execStsDir (a : Byte) (s : State) : Out :=
  perform 0x10DF noAddend (store16 .s (.dir a)) s

/-- R174: STS, indexed. -/
def execStsIdx (p : Indexed) (s : State) : Out :=
  perform 0x10EF p.addend (store16 .s (.idx p)) s

/-- R174: STS, extended. -/
def execStsExt (a : Word) (s : State) : Out :=
  perform 0x10FF noAddend (store16 .s (.ext a)) s

/-- R175: LEAX, indexed. -/
def execLeax (p : Indexed) (s : State) : Out :=
  perform 0x30 p.addend (lea .x p) s

/-- R176: LEAY, indexed. -/
def execLeay (p : Indexed) (s : State) : Out :=
  perform 0x31 p.addend (lea .y p) s

/-- R177: LEAS, indexed. -/
def execLeas (p : Indexed) (s : State) : Out :=
  perform 0x32 p.addend (lea .s p) s

/-- R178: LEAU, indexed. -/
def execLeau (p : Indexed) (s : State) : Out :=
  perform 0x33 p.addend (lea .u p) s

end Sys2Proof.Machine
end

