-- ==== Sys2Proof/Machine/Logic.lean ====
section
/-! DEFINITION. Logic, condition-code and shift instructions (42_logic_shift.md R261 to R288): the shared operations, then one
meaning for each row of the opcode table. -/

namespace Sys2Proof.Machine

/-- `ANDCC` (R272). -/
def andcc (v : Byte) : Op Unit := modifyCore fun c => c.setCC (c.cc.andMask v)

/-- `ORCC` (R273). -/
def orcc (v : Byte) : Op Unit := modifyCore fun c => c.setCC (c.cc.orMask v)

/-- R261: ANDA, immediate. -/
def execAndaImm (v : Byte) (s : State) : Out :=
  perform 0x84 noAddend (bin8 .and .a (.imm v)) s

/-- R261: ANDA, direct. -/
def execAndaDir (a : Byte) (s : State) : Out :=
  perform 0x94 noAddend (bin8 .and .a (.mem (.dir a))) s

/-- R261: ANDA, indexed. -/
def execAndaIdx (p : Indexed) (s : State) : Out :=
  perform 0xA4 p.addend (bin8 .and .a (.mem (.idx p))) s

/-- R261: ANDA, extended. -/
def execAndaExt (a : Word) (s : State) : Out :=
  perform 0xB4 noAddend (bin8 .and .a (.mem (.ext a))) s

/-- R262: ANDB, immediate. -/
def execAndbImm (v : Byte) (s : State) : Out :=
  perform 0xC4 noAddend (bin8 .and .b (.imm v)) s

/-- R262: ANDB, direct. -/
def execAndbDir (a : Byte) (s : State) : Out :=
  perform 0xD4 noAddend (bin8 .and .b (.mem (.dir a))) s

/-- R262: ANDB, indexed. -/
def execAndbIdx (p : Indexed) (s : State) : Out :=
  perform 0xE4 p.addend (bin8 .and .b (.mem (.idx p))) s

/-- R262: ANDB, extended. -/
def execAndbExt (a : Word) (s : State) : Out :=
  perform 0xF4 noAddend (bin8 .and .b (.mem (.ext a))) s

/-- R263: ORA, immediate. -/
def execOraImm (v : Byte) (s : State) : Out :=
  perform 0x8A noAddend (bin8 .or .a (.imm v)) s

/-- R263: ORA, direct. -/
def execOraDir (a : Byte) (s : State) : Out :=
  perform 0x9A noAddend (bin8 .or .a (.mem (.dir a))) s

/-- R263: ORA, indexed. -/
def execOraIdx (p : Indexed) (s : State) : Out :=
  perform 0xAA p.addend (bin8 .or .a (.mem (.idx p))) s

/-- R263: ORA, extended. -/
def execOraExt (a : Word) (s : State) : Out :=
  perform 0xBA noAddend (bin8 .or .a (.mem (.ext a))) s

/-- R264: ORB, immediate. -/
def execOrbImm (v : Byte) (s : State) : Out :=
  perform 0xCA noAddend (bin8 .or .b (.imm v)) s

/-- R264: ORB, direct. -/
def execOrbDir (a : Byte) (s : State) : Out :=
  perform 0xDA noAddend (bin8 .or .b (.mem (.dir a))) s

/-- R264: ORB, indexed. -/
def execOrbIdx (p : Indexed) (s : State) : Out :=
  perform 0xEA p.addend (bin8 .or .b (.mem (.idx p))) s

/-- R264: ORB, extended. -/
def execOrbExt (a : Word) (s : State) : Out :=
  perform 0xFA noAddend (bin8 .or .b (.mem (.ext a))) s

/-- R265: EORA, immediate. -/
def execEoraImm (v : Byte) (s : State) : Out :=
  perform 0x88 noAddend (bin8 .eor .a (.imm v)) s

/-- R265: EORA, direct. -/
def execEoraDir (a : Byte) (s : State) : Out :=
  perform 0x98 noAddend (bin8 .eor .a (.mem (.dir a))) s

/-- R265: EORA, indexed. -/
def execEoraIdx (p : Indexed) (s : State) : Out :=
  perform 0xA8 p.addend (bin8 .eor .a (.mem (.idx p))) s

/-- R265: EORA, extended. -/
def execEoraExt (a : Word) (s : State) : Out :=
  perform 0xB8 noAddend (bin8 .eor .a (.mem (.ext a))) s

/-- R266: EORB, immediate. -/
def execEorbImm (v : Byte) (s : State) : Out :=
  perform 0xC8 noAddend (bin8 .eor .b (.imm v)) s

/-- R266: EORB, direct. -/
def execEorbDir (a : Byte) (s : State) : Out :=
  perform 0xD8 noAddend (bin8 .eor .b (.mem (.dir a))) s

/-- R266: EORB, indexed. -/
def execEorbIdx (p : Indexed) (s : State) : Out :=
  perform 0xE8 p.addend (bin8 .eor .b (.mem (.idx p))) s

/-- R266: EORB, extended. -/
def execEorbExt (a : Word) (s : State) : Out :=
  perform 0xF8 noAddend (bin8 .eor .b (.mem (.ext a))) s

/-- R267: BITA, immediate. -/
def execBitaImm (v : Byte) (s : State) : Out :=
  perform 0x85 noAddend (bin8 .bit .a (.imm v)) s

/-- R267: BITA, direct. -/
def execBitaDir (a : Byte) (s : State) : Out :=
  perform 0x95 noAddend (bin8 .bit .a (.mem (.dir a))) s

/-- R267: BITA, indexed. -/
def execBitaIdx (p : Indexed) (s : State) : Out :=
  perform 0xA5 p.addend (bin8 .bit .a (.mem (.idx p))) s

/-- R267: BITA, extended. -/
def execBitaExt (a : Word) (s : State) : Out :=
  perform 0xB5 noAddend (bin8 .bit .a (.mem (.ext a))) s

/-- R268: BITB, immediate. -/
def execBitbImm (v : Byte) (s : State) : Out :=
  perform 0xC5 noAddend (bin8 .bit .b (.imm v)) s

/-- R268: BITB, direct. -/
def execBitbDir (a : Byte) (s : State) : Out :=
  perform 0xD5 noAddend (bin8 .bit .b (.mem (.dir a))) s

/-- R268: BITB, indexed. -/
def execBitbIdx (p : Indexed) (s : State) : Out :=
  perform 0xE5 p.addend (bin8 .bit .b (.mem (.idx p))) s

/-- R268: BITB, extended. -/
def execBitbExt (a : Word) (s : State) : Out :=
  perform 0xF5 noAddend (bin8 .bit .b (.mem (.ext a))) s

/-- R269: COMA, inherent. -/
def execComa (s : State) : Out :=
  perform 0x43 noAddend (un8Acc .com .a) s

/-- R270: COMB, inherent. -/
def execComb (s : State) : Out :=
  perform 0x53 noAddend (un8Acc .com .b) s

/-- R271: COM, direct. -/
def execComDir (a : Byte) (s : State) : Out :=
  perform 0x03 noAddend (un8Mem .com (.dir a)) s

/-- R271: COM, indexed. -/
def execComIdx (p : Indexed) (s : State) : Out :=
  perform 0x63 p.addend (un8Mem .com (.idx p)) s

/-- R271: COM, extended. -/
def execComExt (a : Word) (s : State) : Out :=
  perform 0x73 noAddend (un8Mem .com (.ext a)) s

/-- R272: ANDCC, immediate. -/
def execAndcc (v : Byte) (s : State) : Out :=
  perform 0x1C noAddend (andcc v) s

/-- R273: ORCC, immediate. -/
def execOrcc (v : Byte) (s : State) : Out :=
  perform 0x1A noAddend (orcc v) s

/-- R274: LSRA, inherent. -/
def execLsra (s : State) : Out :=
  perform 0x44 noAddend (un8Acc .lsr .a) s

/-- R275: LSRB, inherent. -/
def execLsrb (s : State) : Out :=
  perform 0x54 noAddend (un8Acc .lsr .b) s

/-- R276: LSR, direct. -/
def execLsrDir (a : Byte) (s : State) : Out :=
  perform 0x04 noAddend (un8Mem .lsr (.dir a)) s

/-- R276: LSR, indexed. -/
def execLsrIdx (p : Indexed) (s : State) : Out :=
  perform 0x64 p.addend (un8Mem .lsr (.idx p)) s

/-- R276: LSR, extended. -/
def execLsrExt (a : Word) (s : State) : Out :=
  perform 0x74 noAddend (un8Mem .lsr (.ext a)) s

/-- R277: ASRA, inherent. -/
def execAsra (s : State) : Out :=
  perform 0x47 noAddend (un8Acc .asr .a) s

/-- R278: ASRB, inherent. -/
def execAsrb (s : State) : Out :=
  perform 0x57 noAddend (un8Acc .asr .b) s

/-- R279: ASR, direct. -/
def execAsrDir (a : Byte) (s : State) : Out :=
  perform 0x07 noAddend (un8Mem .asr (.dir a)) s

/-- R279: ASR, indexed. -/
def execAsrIdx (p : Indexed) (s : State) : Out :=
  perform 0x67 p.addend (un8Mem .asr (.idx p)) s

/-- R279: ASR, extended. -/
def execAsrExt (a : Word) (s : State) : Out :=
  perform 0x77 noAddend (un8Mem .asr (.ext a)) s

/-- R280: ASLA, inherent. -/
def execAsla (s : State) : Out :=
  perform 0x48 noAddend (un8Acc .asl .a) s

/-- R281: ASLB, inherent. -/
def execAslb (s : State) : Out :=
  perform 0x58 noAddend (un8Acc .asl .b) s

/-- R282: ASL, direct. -/
def execAslDir (a : Byte) (s : State) : Out :=
  perform 0x08 noAddend (un8Mem .asl (.dir a)) s

/-- R282: ASL, indexed. -/
def execAslIdx (p : Indexed) (s : State) : Out :=
  perform 0x68 p.addend (un8Mem .asl (.idx p)) s

/-- R282: ASL, extended. -/
def execAslExt (a : Word) (s : State) : Out :=
  perform 0x78 noAddend (un8Mem .asl (.ext a)) s

/-- R283: ROLA, inherent. -/
def execRola (s : State) : Out :=
  perform 0x49 noAddend (un8Acc .rol .a) s

/-- R284: ROLB, inherent. -/
def execRolb (s : State) : Out :=
  perform 0x59 noAddend (un8Acc .rol .b) s

/-- R285: ROL, direct. -/
def execRolDir (a : Byte) (s : State) : Out :=
  perform 0x09 noAddend (un8Mem .rol (.dir a)) s

/-- R285: ROL, indexed. -/
def execRolIdx (p : Indexed) (s : State) : Out :=
  perform 0x69 p.addend (un8Mem .rol (.idx p)) s

/-- R285: ROL, extended. -/
def execRolExt (a : Word) (s : State) : Out :=
  perform 0x79 noAddend (un8Mem .rol (.ext a)) s

/-- R286: RORA, inherent. -/
def execRora (s : State) : Out :=
  perform 0x46 noAddend (un8Acc .ror .a) s

/-- R287: RORB, inherent. -/
def execRorb (s : State) : Out :=
  perform 0x56 noAddend (un8Acc .ror .b) s

/-- R288: ROR, direct. -/
def execRorDir (a : Byte) (s : State) : Out :=
  perform 0x06 noAddend (un8Mem .ror (.dir a)) s

/-- R288: ROR, indexed. -/
def execRorIdx (p : Indexed) (s : State) : Out :=
  perform 0x66 p.addend (un8Mem .ror (.idx p)) s

/-- R288: ROR, extended. -/
def execRorExt (a : Word) (s : State) : Out :=
  perform 0x76 noAddend (un8Mem .ror (.ext a)) s

end Sys2Proof.Machine
end

