-- ==== Sys2Proof/Machine/System.lean ====
section
/-! DEFINITION. System instructions (45_system.md R370 to R376): the shared operations, then one
meaning for each row of the opcode table. -/

namespace Sys2Proof.Machine

/-- `RTI` takes its column's 6 cycles when the pulled E, now in CC, is 0 and 15 when it is 1 (R374). -/
def rtiAddend (s : State) : Nat := if s.core.cc.e then s.cfg.cycles.rtiExtra else 0

/-- `CWAI` (R375): the mask, then the entire state stacked with E set, then the wait. -/
def cwai (v : Byte) : Op Unit := do
  modifyCore fun c => { c with cc := { c.cc.andMask v with e := true } }
  pushAll
  modifyCore fun c => { c with wait := .cwai }

/-- `SYNC` (R376). -/
def sync : Op Unit := modifyCore fun c => { c with wait := .sync }

/-- R370: NOP, inherent. -/
def execNop (s : State) : Out :=
  perform 0x12 noAddend (pure ()) s

/-- R371: SWI, inherent. -/
def execSwi (s : State) : Out :=
  perform 0x3F noAddend (enter .swi) s

/-- R372: SWI2, inherent. -/
def execSwi2 (s : State) : Out :=
  perform 0x103F noAddend (enter .swi2) s

/-- R373: SWI3, inherent. -/
def execSwi3 (s : State) : Out :=
  perform 0x113F noAddend (enter .swi3) s

/-- R374: RTI, inherent. -/
def execRti (s : State) : Out :=
  perform 0x3B rtiAddend (returnFromInterrupt) s

/-- R375: CWAI, immediate. -/
def execCwai (v : Byte) (s : State) : Out :=
  perform 0x3C noAddend (cwai v) s

/-- R376: SYNC, inherent. -/
def execSync (s : State) : Out :=
  perform 0x13 noAddend (sync) s

end Sys2Proof.Machine
end

