-- ==== Sys2Proof/Machine/Transfer.lean ====
section
/-! DEFINITION. Register transfer and stack instructions (43_transfer_stack.md R300 to R307): the shared operations, then one
meaning for each row of the opcode table. -/

namespace Sys2Proof.Machine

/-- The invalid-encoding condition of a `TFR` or `EXG` term whose registers differ in width (R300): the two bytes before
PC. The decoder refuses such a postbyte, so no fetched instruction comes here (log entry 26). -/
def raiseRegisterPair (opcode : Byte) (r0 r1 : Reg) : Op Unit := do
  let c ← getCore
  fun s => raise (.invalidOpcode s.active (c.pc - 2#16) [opcode, regPostbyte r0 r1]) s

/-- `TFR` (R301). -/
def transfer (r0 r1 : Reg) : Op Unit :=
  match r0, r1 with
  | .r16 p, .r16 q => do
    let c ← getCore
    loadReg q (c.get16 p)
  | .r8 p, .r8 q => modifyCore fun c => c.set8 q (c.get8 p)
  | _, _ => raiseRegisterPair 0x1F#8 r0 r1

/-- `EXG` (R302): both read before either is written, `r1` written first. -/
def exchange (r0 r1 : Reg) : Op Unit :=
  match r0, r1 with
  | .r16 p, .r16 q => do
    let c ← getCore
    loadReg q (c.get16 p)
    loadReg p (c.get16 q)
  | .r8 p, .r8 q => modifyCore fun c => (c.set8 q (c.get8 p)).set8 p (c.get8 q)
  | _, _ => raiseRegisterPair 0x1E#8 r0 r1

/-- `PSHS` and `PSHU` (R303, R305): PC first, CC last, each as its mask bit says; bit 6 is the other stack pointer. -/
def pushRegs (p : StackPtr) (m : Byte) : Op Unit := do
  let c ← getCore
  if m.getLsbD 7 then push16 p c.pc
  if m.getLsbD 6 then push16 p (c.sp p.other)
  if m.getLsbD 5 then push16 p c.y
  if m.getLsbD 4 then push16 p c.x
  if m.getLsbD 3 then push8 p c.dp
  if m.getLsbD 2 then push8 p c.b
  if m.getLsbD 1 then push8 p c.a
  if m.getLsbD 0 then push8 p c.cc.toByte

/-- A byte pulled into a register. -/
def pullTo8 (p : StackPtr) (f : Byte → Core → Core) : Op Unit := do
  let v ← pull8 p
  modifyCore (f v)

/-- A word pulled into a register. -/
def pullTo16 (p : StackPtr) (f : Word → Core → Core) : Op Unit := do
  let v ← pull16 p
  modifyCore (f v)

/-- The other stack pointer pulled: `U` by `PULS`, `S` by `PULU`, which is a load of `S` and arms the NMI (R304, R306;
60_exceptions.md R410). -/
def pullOther (p : StackPtr) : Op Unit := do
  let v ← pull16 p
  match p with
  | .s => loadReg .u v
  | .u => loadReg .s v

/-- `PULS` and `PULU` (R304, R306): CC first, PC last. -/
def pullRegs (p : StackPtr) (m : Byte) : Op Unit := do
  if m.getLsbD 0 then pullTo8 p fun v c => { c with cc := CC.ofByte v }
  if m.getLsbD 1 then pullTo8 p fun v c => { c with a := v }
  if m.getLsbD 2 then pullTo8 p fun v c => { c with b := v }
  if m.getLsbD 3 then pullTo8 p fun v c => { c with dp := v }
  if m.getLsbD 4 then pullTo16 p fun v c => { c with x := v }
  if m.getLsbD 5 then pullTo16 p fun v c => { c with y := v }
  if m.getLsbD 6 then pullOther p
  if m.getLsbD 7 then pullTo16 p fun v c => { c with pc := v }

/-- R301: TFR, register postbyte. -/
def execTfr (r0 : Reg) (r1 : Reg) (s : State) : Out :=
  perform 0x1F noAddend (transfer r0 r1) s

/-- R302: EXG, register postbyte. -/
def execExg (r0 : Reg) (r1 : Reg) (s : State) : Out :=
  perform 0x1E noAddend (exchange r0 r1) s

/-- R303: PSHS, stack postbyte. -/
def execPshs (m : Byte) (s : State) : Out :=
  perform 0x34 (stackAddend m) (pushRegs .s m) s

/-- R304: PULS, stack postbyte. -/
def execPuls (m : Byte) (s : State) : Out :=
  perform 0x35 (stackAddend m) (pullRegs .s m) s

/-- R305: PSHU, stack postbyte. -/
def execPshu (m : Byte) (s : State) : Out :=
  perform 0x36 (stackAddend m) (pushRegs .u m) s

/-- R306: PULU, stack postbyte. -/
def execPulu (m : Byte) (s : State) : Out :=
  perform 0x37 (stackAddend m) (pullRegs .u m) s

end Sys2Proof.Machine
end

