-- ==== Sys2Proof/Machine/Dispatch.lean ====
section
/-! DEFINITION. Which meaning an instruction has: one arm per constructor of Instr, each one call of its own meaning. -/

namespace Sys2Proof.Machine

def exec (i : Instr) (s : State) : Host.Outcome State Fault Refusal :=
  match i with
  | .ldaImm v => Sys2Proof.Machine.execLdaImm v s
  | .ldaDir a => Sys2Proof.Machine.execLdaDir a s
  | .ldaIdx p => Sys2Proof.Machine.execLdaIdx p s
  | .ldaExt a => Sys2Proof.Machine.execLdaExt a s
  | .ldbImm v => Sys2Proof.Machine.execLdbImm v s
  | .ldbDir a => Sys2Proof.Machine.execLdbDir a s
  | .ldbIdx p => Sys2Proof.Machine.execLdbIdx p s
  | .ldbExt a => Sys2Proof.Machine.execLdbExt a s
  | .lddImm v => Sys2Proof.Machine.execLddImm v s
  | .lddDir a => Sys2Proof.Machine.execLddDir a s
  | .lddIdx p => Sys2Proof.Machine.execLddIdx p s
  | .lddExt a => Sys2Proof.Machine.execLddExt a s
  | .ldxImm v => Sys2Proof.Machine.execLdxImm v s
  | .ldxDir a => Sys2Proof.Machine.execLdxDir a s
  | .ldxIdx p => Sys2Proof.Machine.execLdxIdx p s
  | .ldxExt a => Sys2Proof.Machine.execLdxExt a s
  | .ldyImm v => Sys2Proof.Machine.execLdyImm v s
  | .ldyDir a => Sys2Proof.Machine.execLdyDir a s
  | .ldyIdx p => Sys2Proof.Machine.execLdyIdx p s
  | .ldyExt a => Sys2Proof.Machine.execLdyExt a s
  | .lduImm v => Sys2Proof.Machine.execLduImm v s
  | .lduDir a => Sys2Proof.Machine.execLduDir a s
  | .lduIdx p => Sys2Proof.Machine.execLduIdx p s
  | .lduExt a => Sys2Proof.Machine.execLduExt a s
  | .ldsImm v => Sys2Proof.Machine.execLdsImm v s
  | .ldsDir a => Sys2Proof.Machine.execLdsDir a s
  | .ldsIdx p => Sys2Proof.Machine.execLdsIdx p s
  | .ldsExt a => Sys2Proof.Machine.execLdsExt a s
  | .staDir a => Sys2Proof.Machine.execStaDir a s
  | .staIdx p => Sys2Proof.Machine.execStaIdx p s
  | .staExt a => Sys2Proof.Machine.execStaExt a s
  | .stbDir a => Sys2Proof.Machine.execStbDir a s
  | .stbIdx p => Sys2Proof.Machine.execStbIdx p s
  | .stbExt a => Sys2Proof.Machine.execStbExt a s
  | .stdDir a => Sys2Proof.Machine.execStdDir a s
  | .stdIdx p => Sys2Proof.Machine.execStdIdx p s
  | .stdExt a => Sys2Proof.Machine.execStdExt a s
  | .stxDir a => Sys2Proof.Machine.execStxDir a s
  | .stxIdx p => Sys2Proof.Machine.execStxIdx p s
  | .stxExt a => Sys2Proof.Machine.execStxExt a s
  | .styDir a => Sys2Proof.Machine.execStyDir a s
  | .styIdx p => Sys2Proof.Machine.execStyIdx p s
  | .styExt a => Sys2Proof.Machine.execStyExt a s
  | .stuDir a => Sys2Proof.Machine.execStuDir a s
  | .stuIdx p => Sys2Proof.Machine.execStuIdx p s
  | .stuExt a => Sys2Proof.Machine.execStuExt a s
  | .stsDir a => Sys2Proof.Machine.execStsDir a s
  | .stsIdx p => Sys2Proof.Machine.execStsIdx p s
  | .stsExt a => Sys2Proof.Machine.execStsExt a s
  | .leax p => Sys2Proof.Machine.execLeax p s
  | .leay p => Sys2Proof.Machine.execLeay p s
  | .leas p => Sys2Proof.Machine.execLeas p s
  | .leau p => Sys2Proof.Machine.execLeau p s
  | .addaImm v => Sys2Proof.Machine.execAddaImm v s
  | .addaDir a => Sys2Proof.Machine.execAddaDir a s
  | .addaIdx p => Sys2Proof.Machine.execAddaIdx p s
  | .addaExt a => Sys2Proof.Machine.execAddaExt a s
  | .addbImm v => Sys2Proof.Machine.execAddbImm v s
  | .addbDir a => Sys2Proof.Machine.execAddbDir a s
  | .addbIdx p => Sys2Proof.Machine.execAddbIdx p s
  | .addbExt a => Sys2Proof.Machine.execAddbExt a s
  | .adcaImm v => Sys2Proof.Machine.execAdcaImm v s
  | .adcaDir a => Sys2Proof.Machine.execAdcaDir a s
  | .adcaIdx p => Sys2Proof.Machine.execAdcaIdx p s
  | .adcaExt a => Sys2Proof.Machine.execAdcaExt a s
  | .adcbImm v => Sys2Proof.Machine.execAdcbImm v s
  | .adcbDir a => Sys2Proof.Machine.execAdcbDir a s
  | .adcbIdx p => Sys2Proof.Machine.execAdcbIdx p s
  | .adcbExt a => Sys2Proof.Machine.execAdcbExt a s
  | .subaImm v => Sys2Proof.Machine.execSubaImm v s
  | .subaDir a => Sys2Proof.Machine.execSubaDir a s
  | .subaIdx p => Sys2Proof.Machine.execSubaIdx p s
  | .subaExt a => Sys2Proof.Machine.execSubaExt a s
  | .subbImm v => Sys2Proof.Machine.execSubbImm v s
  | .subbDir a => Sys2Proof.Machine.execSubbDir a s
  | .subbIdx p => Sys2Proof.Machine.execSubbIdx p s
  | .subbExt a => Sys2Proof.Machine.execSubbExt a s
  | .sbcaImm v => Sys2Proof.Machine.execSbcaImm v s
  | .sbcaDir a => Sys2Proof.Machine.execSbcaDir a s
  | .sbcaIdx p => Sys2Proof.Machine.execSbcaIdx p s
  | .sbcaExt a => Sys2Proof.Machine.execSbcaExt a s
  | .sbcbImm v => Sys2Proof.Machine.execSbcbImm v s
  | .sbcbDir a => Sys2Proof.Machine.execSbcbDir a s
  | .sbcbIdx p => Sys2Proof.Machine.execSbcbIdx p s
  | .sbcbExt a => Sys2Proof.Machine.execSbcbExt a s
  | .cmpaImm v => Sys2Proof.Machine.execCmpaImm v s
  | .cmpaDir a => Sys2Proof.Machine.execCmpaDir a s
  | .cmpaIdx p => Sys2Proof.Machine.execCmpaIdx p s
  | .cmpaExt a => Sys2Proof.Machine.execCmpaExt a s
  | .cmpbImm v => Sys2Proof.Machine.execCmpbImm v s
  | .cmpbDir a => Sys2Proof.Machine.execCmpbDir a s
  | .cmpbIdx p => Sys2Proof.Machine.execCmpbIdx p s
  | .cmpbExt a => Sys2Proof.Machine.execCmpbExt a s
  | .adddImm v => Sys2Proof.Machine.execAdddImm v s
  | .adddDir a => Sys2Proof.Machine.execAdddDir a s
  | .adddIdx p => Sys2Proof.Machine.execAdddIdx p s
  | .adddExt a => Sys2Proof.Machine.execAdddExt a s
  | .subdImm v => Sys2Proof.Machine.execSubdImm v s
  | .subdDir a => Sys2Proof.Machine.execSubdDir a s
  | .subdIdx p => Sys2Proof.Machine.execSubdIdx p s
  | .subdExt a => Sys2Proof.Machine.execSubdExt a s
  | .cmpdImm v => Sys2Proof.Machine.execCmpdImm v s
  | .cmpdDir a => Sys2Proof.Machine.execCmpdDir a s
  | .cmpdIdx p => Sys2Proof.Machine.execCmpdIdx p s
  | .cmpdExt a => Sys2Proof.Machine.execCmpdExt a s
  | .cmpxImm v => Sys2Proof.Machine.execCmpxImm v s
  | .cmpxDir a => Sys2Proof.Machine.execCmpxDir a s
  | .cmpxIdx p => Sys2Proof.Machine.execCmpxIdx p s
  | .cmpxExt a => Sys2Proof.Machine.execCmpxExt a s
  | .cmpyImm v => Sys2Proof.Machine.execCmpyImm v s
  | .cmpyDir a => Sys2Proof.Machine.execCmpyDir a s
  | .cmpyIdx p => Sys2Proof.Machine.execCmpyIdx p s
  | .cmpyExt a => Sys2Proof.Machine.execCmpyExt a s
  | .cmpuImm v => Sys2Proof.Machine.execCmpuImm v s
  | .cmpuDir a => Sys2Proof.Machine.execCmpuDir a s
  | .cmpuIdx p => Sys2Proof.Machine.execCmpuIdx p s
  | .cmpuExt a => Sys2Proof.Machine.execCmpuExt a s
  | .cmpsImm v => Sys2Proof.Machine.execCmpsImm v s
  | .cmpsDir a => Sys2Proof.Machine.execCmpsDir a s
  | .cmpsIdx p => Sys2Proof.Machine.execCmpsIdx p s
  | .cmpsExt a => Sys2Proof.Machine.execCmpsExt a s
  | .nega => Sys2Proof.Machine.execNega s
  | .negb => Sys2Proof.Machine.execNegb s
  | .negDir a => Sys2Proof.Machine.execNegDir a s
  | .negIdx p => Sys2Proof.Machine.execNegIdx p s
  | .negExt a => Sys2Proof.Machine.execNegExt a s
  | .inca => Sys2Proof.Machine.execInca s
  | .incb => Sys2Proof.Machine.execIncb s
  | .incDir a => Sys2Proof.Machine.execIncDir a s
  | .incIdx p => Sys2Proof.Machine.execIncIdx p s
  | .incExt a => Sys2Proof.Machine.execIncExt a s
  | .deca => Sys2Proof.Machine.execDeca s
  | .decb => Sys2Proof.Machine.execDecb s
  | .decDir a => Sys2Proof.Machine.execDecDir a s
  | .decIdx p => Sys2Proof.Machine.execDecIdx p s
  | .decExt a => Sys2Proof.Machine.execDecExt a s
  | .clra => Sys2Proof.Machine.execClra s
  | .clrb => Sys2Proof.Machine.execClrb s
  | .clrDir a => Sys2Proof.Machine.execClrDir a s
  | .clrIdx p => Sys2Proof.Machine.execClrIdx p s
  | .clrExt a => Sys2Proof.Machine.execClrExt a s
  | .tsta => Sys2Proof.Machine.execTsta s
  | .tstb => Sys2Proof.Machine.execTstb s
  | .tstDir a => Sys2Proof.Machine.execTstDir a s
  | .tstIdx p => Sys2Proof.Machine.execTstIdx p s
  | .tstExt a => Sys2Proof.Machine.execTstExt a s
  | .mul => Sys2Proof.Machine.execMul s
  | .daa => Sys2Proof.Machine.execDaa s
  | .sex => Sys2Proof.Machine.execSex s
  | .abx => Sys2Proof.Machine.execAbx s
  | .andaImm v => Sys2Proof.Machine.execAndaImm v s
  | .andaDir a => Sys2Proof.Machine.execAndaDir a s
  | .andaIdx p => Sys2Proof.Machine.execAndaIdx p s
  | .andaExt a => Sys2Proof.Machine.execAndaExt a s
  | .andbImm v => Sys2Proof.Machine.execAndbImm v s
  | .andbDir a => Sys2Proof.Machine.execAndbDir a s
  | .andbIdx p => Sys2Proof.Machine.execAndbIdx p s
  | .andbExt a => Sys2Proof.Machine.execAndbExt a s
  | .oraImm v => Sys2Proof.Machine.execOraImm v s
  | .oraDir a => Sys2Proof.Machine.execOraDir a s
  | .oraIdx p => Sys2Proof.Machine.execOraIdx p s
  | .oraExt a => Sys2Proof.Machine.execOraExt a s
  | .orbImm v => Sys2Proof.Machine.execOrbImm v s
  | .orbDir a => Sys2Proof.Machine.execOrbDir a s
  | .orbIdx p => Sys2Proof.Machine.execOrbIdx p s
  | .orbExt a => Sys2Proof.Machine.execOrbExt a s
  | .eoraImm v => Sys2Proof.Machine.execEoraImm v s
  | .eoraDir a => Sys2Proof.Machine.execEoraDir a s
  | .eoraIdx p => Sys2Proof.Machine.execEoraIdx p s
  | .eoraExt a => Sys2Proof.Machine.execEoraExt a s
  | .eorbImm v => Sys2Proof.Machine.execEorbImm v s
  | .eorbDir a => Sys2Proof.Machine.execEorbDir a s
  | .eorbIdx p => Sys2Proof.Machine.execEorbIdx p s
  | .eorbExt a => Sys2Proof.Machine.execEorbExt a s
  | .bitaImm v => Sys2Proof.Machine.execBitaImm v s
  | .bitaDir a => Sys2Proof.Machine.execBitaDir a s
  | .bitaIdx p => Sys2Proof.Machine.execBitaIdx p s
  | .bitaExt a => Sys2Proof.Machine.execBitaExt a s
  | .bitbImm v => Sys2Proof.Machine.execBitbImm v s
  | .bitbDir a => Sys2Proof.Machine.execBitbDir a s
  | .bitbIdx p => Sys2Proof.Machine.execBitbIdx p s
  | .bitbExt a => Sys2Proof.Machine.execBitbExt a s
  | .coma => Sys2Proof.Machine.execComa s
  | .comb => Sys2Proof.Machine.execComb s
  | .comDir a => Sys2Proof.Machine.execComDir a s
  | .comIdx p => Sys2Proof.Machine.execComIdx p s
  | .comExt a => Sys2Proof.Machine.execComExt a s
  | .andcc v => Sys2Proof.Machine.execAndcc v s
  | .orcc v => Sys2Proof.Machine.execOrcc v s
  | .lsra => Sys2Proof.Machine.execLsra s
  | .lsrb => Sys2Proof.Machine.execLsrb s
  | .lsrDir a => Sys2Proof.Machine.execLsrDir a s
  | .lsrIdx p => Sys2Proof.Machine.execLsrIdx p s
  | .lsrExt a => Sys2Proof.Machine.execLsrExt a s
  | .asra => Sys2Proof.Machine.execAsra s
  | .asrb => Sys2Proof.Machine.execAsrb s
  | .asrDir a => Sys2Proof.Machine.execAsrDir a s
  | .asrIdx p => Sys2Proof.Machine.execAsrIdx p s
  | .asrExt a => Sys2Proof.Machine.execAsrExt a s
  | .asla => Sys2Proof.Machine.execAsla s
  | .aslb => Sys2Proof.Machine.execAslb s
  | .aslDir a => Sys2Proof.Machine.execAslDir a s
  | .aslIdx p => Sys2Proof.Machine.execAslIdx p s
  | .aslExt a => Sys2Proof.Machine.execAslExt a s
  | .rola => Sys2Proof.Machine.execRola s
  | .rolb => Sys2Proof.Machine.execRolb s
  | .rolDir a => Sys2Proof.Machine.execRolDir a s
  | .rolIdx p => Sys2Proof.Machine.execRolIdx p s
  | .rolExt a => Sys2Proof.Machine.execRolExt a s
  | .rora => Sys2Proof.Machine.execRora s
  | .rorb => Sys2Proof.Machine.execRorb s
  | .rorDir a => Sys2Proof.Machine.execRorDir a s
  | .rorIdx p => Sys2Proof.Machine.execRorIdx p s
  | .rorExt a => Sys2Proof.Machine.execRorExt a s
  | .tfr r0 r1 => Sys2Proof.Machine.execTfr r0 r1 s
  | .exg r0 r1 => Sys2Proof.Machine.execExg r0 r1 s
  | .pshs m => Sys2Proof.Machine.execPshs m s
  | .puls m => Sys2Proof.Machine.execPuls m s
  | .pshu m => Sys2Proof.Machine.execPshu m s
  | .pulu m => Sys2Proof.Machine.execPulu m s
  | .bra o => Sys2Proof.Machine.execBra o s
  | .brn o => Sys2Proof.Machine.execBrn o s
  | .bhi o => Sys2Proof.Machine.execBhi o s
  | .bls o => Sys2Proof.Machine.execBls o s
  | .bcc o => Sys2Proof.Machine.execBcc o s
  | .bcs o => Sys2Proof.Machine.execBcs o s
  | .bne o => Sys2Proof.Machine.execBne o s
  | .beq o => Sys2Proof.Machine.execBeq o s
  | .bvc o => Sys2Proof.Machine.execBvc o s
  | .bvs o => Sys2Proof.Machine.execBvs o s
  | .bpl o => Sys2Proof.Machine.execBpl o s
  | .bmi o => Sys2Proof.Machine.execBmi o s
  | .bge o => Sys2Proof.Machine.execBge o s
  | .blt o => Sys2Proof.Machine.execBlt o s
  | .bgt o => Sys2Proof.Machine.execBgt o s
  | .ble o => Sys2Proof.Machine.execBle o s
  | .lbra o => Sys2Proof.Machine.execLbra o s
  | .lbrn o => Sys2Proof.Machine.execLbrn o s
  | .lbhi o => Sys2Proof.Machine.execLbhi o s
  | .lbls o => Sys2Proof.Machine.execLbls o s
  | .lbcc o => Sys2Proof.Machine.execLbcc o s
  | .lbcs o => Sys2Proof.Machine.execLbcs o s
  | .lbne o => Sys2Proof.Machine.execLbne o s
  | .lbeq o => Sys2Proof.Machine.execLbeq o s
  | .lbvc o => Sys2Proof.Machine.execLbvc o s
  | .lbvs o => Sys2Proof.Machine.execLbvs o s
  | .lbpl o => Sys2Proof.Machine.execLbpl o s
  | .lbmi o => Sys2Proof.Machine.execLbmi o s
  | .lbge o => Sys2Proof.Machine.execLbge o s
  | .lblt o => Sys2Proof.Machine.execLblt o s
  | .lbgt o => Sys2Proof.Machine.execLbgt o s
  | .lble o => Sys2Proof.Machine.execLble o s
  | .bsr o => Sys2Proof.Machine.execBsr o s
  | .lbsr o => Sys2Proof.Machine.execLbsr o s
  | .jmpDir a => Sys2Proof.Machine.execJmpDir a s
  | .jmpIdx p => Sys2Proof.Machine.execJmpIdx p s
  | .jmpExt a => Sys2Proof.Machine.execJmpExt a s
  | .jsrDir a => Sys2Proof.Machine.execJsrDir a s
  | .jsrIdx p => Sys2Proof.Machine.execJsrIdx p s
  | .jsrExt a => Sys2Proof.Machine.execJsrExt a s
  | .rts => Sys2Proof.Machine.execRts s
  | .nop => Sys2Proof.Machine.execNop s
  | .swi => Sys2Proof.Machine.execSwi s
  | .swi2 => Sys2Proof.Machine.execSwi2 s
  | .swi3 => Sys2Proof.Machine.execSwi3 s
  | .rti => Sys2Proof.Machine.execRti s
  | .cwai v => Sys2Proof.Machine.execCwai v s
  | .sync => Sys2Proof.Machine.execSync s

end Sys2Proof.Machine
end

