-- ==== Sys2Proof/Machine/CoreStep.lean ====
section
/-! DEFINITION. `step()` of a core (60_exceptions.md R411, R419, R421): fetching and decoding an instruction, servicing an
interrupt, and the steps of a waiting core. -/

namespace Sys2Proof.Machine

/-- Fetching one instruction (30_encoding.md R145): bytes are fetched until they decode or are refused, at most `fuel`
more; a refusal is `InvalidOpcode` with the address of the first byte and the bytes fetched (60_exceptions.md R401). -/
def fetchFrom (start : Word) : Nat → List Byte → Op Instr
  | fuel, bytes =>
    match decode bytes with
    | .instr i _ => pure i
    | .invalid _ => fun s => raise (.invalidOpcode s.active start bytes) s
    | .incomplete =>
      match fuel with
      | 0 => fun s => raise (.invalidOpcode s.active start bytes) s
      | n + 1 => do
        let v ← fetch8
        fetchFrom start n (bytes ++ [v])

/-- The instruction at PC; afterwards PC is the address of the byte after its last one (10_state.md R25). -/
def fetchInstr : Op Instr := do
  let c ← getCore
  fetchFrom c.pc maxLength []

/-- One instruction: fetched, decoded, executed. -/
def instrStep (s : State) : Out :=
  match fetchInstr s with
  | .ok i s' => exec i s'
  | .error _ s' => .next s'

/-- The interrupt that is due, in the order NMI, FIRQ, IRQ (60_exceptions.md R411). -/
def Core.due (c : Core) (hasNmi : Bool) : Option Entry :=
  if hasNmi && c.pendingNMI && c.nmiArmed then some .nmi
  else if c.pendingFIRQ && !c.cc.f then some .firq
  else if c.pendingIRQ && !c.cc.i then some .irq
  else none

/-- The cycles of a service (R412 to R414). -/
def serviceCycles (k : Entry) (s : State) : Nat :=
  match k with
  | .irq => s.cfg.cycles.irq
  | .firq => s.cfg.cycles.firq
  | .nmi => s.cfg.cycles.nmi
  | _ => 0

/-- Servicing an interrupt is a step of its own (R412 to R414, R419). -/
def serviceStep (k : Entry) (s : State) : Out := runOp (serviceCycles k) (enter k) s

/-- The step of a core in the wait state `run` (R411). -/
def runStep (s : State) : Out :=
  match s.core.due s.cfg.hasNmi with
  | some k => serviceStep k s
  | none => instrStep s

/-- Leaving a wait state. -/
def State.wake (s : State) : State := s.modCore fun c => { c with wait := .run }

/-- An idle wait step (R421). -/
def idleStep (s : State) : Out := .next (s.tick s.cfg.cycles.idle)

/-- Whether any latch is pending, masked or not (R421). -/
def Core.anyPending (c : Core) (hasNmi : Bool) : Bool :=
  c.pendingIRQ || c.pendingFIRQ || (hasNmi && c.pendingNMI)

/-- The step of a core in the wait state `sync` (R421): a due interrupt is serviced, a masked one only ends the wait. -/
def syncStep (s : State) : Out :=
  match s.core.due s.cfg.hasNmi with
  | some k => serviceStep k s.wake
  | none => if s.core.anyPending s.cfg.hasNmi then instrStep s.wake else idleStep s

/-- The step of a core in the wait state `cwai` (R421): the context is already stacked, so only the vector is taken. -/
def cwaiStep (s : State) : Out :=
  match s.core.due s.cfg.hasNmi with
  | some k => runOp (fun s' => s'.cfg.cycles.resume) (takeVector k) s.wake
  | none => idleStep s

/-- `step()` of the stepping core (R419), of a machine that is not halted. -/
def coreStep (s : State) : Out :=
  match s.core.wait with
  | .run => runStep s
  | .sync => syncStep s
  | .cwai => cwaiStep s

end Sys2Proof.Machine
end

