-- ==== Sys2Proof/Machine/Controller.lean ====
section
/-! DEFINITION. The interrupt/timing controller's `advance(t)` (60_exceptions.md R431 to R440), the clock scaling (R462)
and the sound-side end of a sub-step (R463, R471). A loop that subtracts a period while it fits is a quotient and a
remainder (log entry 21). -/

namespace Sys2Proof.Machine

/-- The periods, thresholds and the clock denominator are at least 1 (93_implementation_defined.md U16). -/
def ticksOk (c : Cfg) : Bool :=
  decide (1 ≤ c.watchdogReload) && decide (1 ≤ c.zeroCrossPeriod) && decide (1 ≤ c.irqPeriod) &&
    decide (1 ≤ c.firqHackTicks) && decide (1 ≤ c.soundClkDen)

/-- A change made `n` times. -/
def iterate (f : State → State) : Nat → State → State
  | 0, s => s
  | n + 1, s => iterate f n (f s)

/-- The watchdog's part of `advance(t)` (R431, R432). -/
def Controller.watchdog (k : Controller) (t : Nat) : Controller :=
  match k.wdState with
  | .armed =>
    if k.wdCounter > t then { k with wdCounter := k.wdCounter - t }
    else { k with wdCounter := 0, wdState := .expired, wdExpiredCount := k.wdExpiredCount + 1 }
  | _ => k

/-- `zeroCrossEvent()` (R440). -/
def State.zeroCrossEvent (s : State) : State :=
  let s := { s with ctl := { s.ctl with
    zcFlag := (match s.cfg.zeroCrossMode with
      | .toggle => !s.ctl.zcFlag
      | .setClearOnRead => true)
    zcToggleCount := s.ctl.zcToggleCount + 1 } }
  if s.cfg.zeroCrossRaisesIrq then s.irq .main else s

/-- One tick of the periodic IRQ (R435). -/
def State.periodicIrq (s : State) : State := if s.ctl.periodicIrqEnable then s.irq .main else s

/-- The zero-cross part of `advance(t)` (R431). -/
def State.advanceZeroCross (s : State) (t : Nat) : State :=
  let total := s.ctl.zcCounter + t
  iterate State.zeroCrossEvent (total / s.cfg.zeroCrossPeriod)
    { s with ctl := { s.ctl with zcCounter := total % s.cfg.zeroCrossPeriod } }

/-- The periodic-IRQ part of `advance(t)` (R431). -/
def State.advanceIrq (s : State) (t : Nat) : State :=
  let total := s.ctl.irqCounter + t
  iterate State.periodicIrq (total / s.cfg.irqPeriod)
    { s with ctl := { s.ctl with irqCounter := total % s.cfg.irqPeriod } }

/-- `advance(t)` (R431): the watchdog, the zero-cross detector, the periodic IRQ, in that order. -/
def State.advance (s : State) (t : Nat) : State :=
  (({ s with ctl := s.ctl.watchdog t }).advanceZeroCross t).advanceIrq t

/-- `soundBudget(t)` (R462): the budget. -/
def State.soundBudget (s : State) (t : Nat) : Nat := (s.soundCarry + t * s.cfg.soundClkNum) / s.cfg.soundClkDen

/-- `soundBudget(t)` (R462): the carry it leaves. -/
def State.carrySound (s : State) (t : Nat) : State :=
  { s with soundCarry := (s.soundCarry + t * s.cfg.soundClkNum) % s.cfg.soundClkDen }

/-- The end of the sound slice (R463, R470, R471): the FM chip advances by the cycles consumed, and the timer hack asserts
the sound FIRQ once per threshold crossed. -/
def State.endSound (s : State) (ts : Nat) : State :=
  let s := s.record (.fmAdvance ts)
  let total := s.firqHackCounter + ts
  iterate (fun s => s.firq .sound) (total / s.cfg.firqHackTicks)
    { s with firqHackCounter := total % s.cfg.firqHackTicks }

end Sys2Proof.Machine
end

