-- ==== Sys2Proof/Machine/Reset.lean ====
section
/-! DEFINITION. Reset and initialisation (70_reset_and_hazards.md R480 to R489, R496), and the observation `getUiState`
(R498). -/

namespace Sys2Proof.Machine

/-- A board's core and mapper after a reset (R481 to R486): RAM and shadow keep their contents (R489). PC comes from the
reset vector through the mapper after the bank has been reset; at 0xFFFE stands fixed ROM, so the reads have no effect. -/
def State.resetCore (s : State) (b : Board) : State :=
  let s := s.setBank b 0
  s.setCoreOf b (Core.atReset s.cfg.resetRegs (word (s.peek b 0xFFFE) (s.peek b 0xFFFF)))

/-- What every reset clears beside a board (R484, R487; log entry 28). -/
def State.resetShared (s : State) : State := { s with fatal := none, diag := [], soundCarry := 0 }

/-- `main.reset()` or `sound.reset()` (R480, R487, R488): the controller goes with the main board, the latch and the timer
hack with the sound board. -/
def State.resetBoard (s : State) (b : Board) : State :=
  match b with
  | .main => { (s.resetCore .main).resetShared with ctl := Controller.atReset s.cfg, boardTicks := 0 }
  | .sound =>
    { (s.resetCore .sound).resetShared with latchByte := 0x00#8, latchAvail := false, firqHackCounter := 0 }

/-- The host-level `reset()` (R480): both boards, the main board first, and the latch. -/
def State.resetAll (s : State) : State := (s.resetBoard .main).resetBoard .sound

/-- A board's map (00_scope.md R7): the regions in order, the vectors in fixed ROM (20_memory.md R78), the RAM array and its
initial image, the bank-select register inside the window (log entry 23). -/
def mapOk (c : BoardCfg) : Bool :=
  decide (c.ramEnd ≤ c.hwEnd) && decide (c.hwEnd < c.bankEnd) && decide (c.bankEnd ≤ 0xFFF0) &&
    decide (c.ramEnd ≤ c.ramSize) && c.ramImage.wf && c.ramImage.below c.ramSize &&
    decide (c.ramEnd ≤ c.bankSelect) && decide (c.bankSelect < c.hwEnd)

/-- A board's ROM images have the lengths of R7 exactly (70_reset_and_hazards.md R493, R496): the fixed ROM fills its region,
and the banked ROM is a whole and positive number of banks. -/
def romsOk (c : BoardCfg) : Bool :=
  c.fixedRom.ok && decide (c.fixedRom.len = 0x10000 - c.bankEnd) &&
    c.bankedRom.ok && decide (c.bankedRom.len % c.window = 0) && decide (1 ≤ c.banks)

/-- A board's constraints of R7. -/
def boardOk (c : BoardCfg) : Bool := mapOk c && romsOk c

/-- The address lies in a board's hardware window. -/
def inWindow (c : BoardCfg) (a : Nat) : Bool := decide (c.ramEnd ≤ a) && decide (a < c.hwEnd)

/-- The parameters other than the ROM images meet the constraints of 00_scope.md R7 and 93_implementation_defined.md U16. None
is put on `RESET_REGS`: a DP other than 0x00 and a CC with F or I clear are accepted (DESIGN CHOICE, log entry 36). -/
def descOk (c : Cfg) : Bool :=
  mapOk c.main && mapOk c.sound && ticksOk c && inWindow c.main c.watchdogAddr &&
    inWindow c.main c.zeroCrossAddr && inWindow c.main c.soundDataAddr && inWindow c.sound c.latchReadAddr

/-- The configuration meets the constraints of R7 and U16. -/
def cfgOk (c : Cfg) : Bool := descOk c && romsOk c.main && romsOk c.sound

/-- The ROM images the host hands over, one byte array for each ROM of R7 (R496). -/
structure RomImages where
  mainFixed : List Byte
  mainBanked : List Byte
  soundFixed : List Byte
  soundBanked : List Byte
deriving DecidableEq, Repr

/-- A board's configuration with the host's images in it. -/
def boardWithRoms (c : BoardCfg) (fixed banked : List Byte) : BoardCfg :=
  { c with fixedRom := .ofBytes fixed, bankedRom := .ofBytes banked }

/-- A configuration with the host's images in it. -/
def withRoms (c : Cfg) (r : RomImages) : Cfg :=
  { c with
    main := boardWithRoms c.main r.mainFixed r.mainBanked
    sound := boardWithRoms c.sound r.soundFixed r.soundBanked }

/-- `initialise(romImages, gameDescriptor)` (R480, R493, R496), the descriptor being the parameters of R7: the machine at
power-on, reset included; `RomLoadError` when an image is missing or of another length than R7 asks, and no machine. Where a
parameter is bad too, the spec does not say which failure is reported; the parameters come first here (DESIGN CHOICE, log
entry 37). -/
def State.initialise (roms : RomImages) (desc : Cfg) : Host.Outcome State Fault Refusal :=
  let c := withRoms desc roms
  if descOk c then
    if romsOk c.main && romsOk c.sound then .next (State.powerOn c) else .refused .romLoadError
  else .refused .configRefused

/-- What `getUiState` shows of a core (R498). -/
structure CoreSnapshot where
  a : Byte
  b : Byte
  x : Word
  y : Word
  u : Word
  s : Word
  pc : Word
  dp : Byte
  cc : Byte
  tickCount : Nat
  irqCount : Nat
  firqCount : Nat
  missedIRQ : Nat
  missedFIRQ : Nat
deriving DecidableEq, Repr

/-- The snapshot of R498, and the diagnostic record, which 60_exceptions.md R474 lets the host observe in it. -/
structure Snapshot where
  main : CoreSnapshot
  sound : CoreSnapshot
  mainRam : Memory
  soundRam : Memory
  mainBank : Nat
  soundBank : Nat
  wdState : WdState
  zcToggleCount : Nat
  wdExpiredCount : Nat
  latchByte : Byte
  latchAvail : Bool
  /-- the record of 60_exceptions.md R404 -/
  diag : List Diag
deriving DecidableEq, Repr

/-- What the snapshot shows of a core. -/
def Core.snapshot (c : Core) : CoreSnapshot where
  a := c.a
  b := c.b
  x := c.x
  y := c.y
  u := c.u
  s := c.s
  pc := c.pc
  dp := c.dp
  cc := c.cc.toByte
  tickCount := c.tickCount
  irqCount := c.irqCount
  firqCount := c.firqCount
  missedIRQ := c.missedIRQ
  missedFIRQ := c.missedFIRQ

/-- `getUiState()` (R498): a pure observation. -/
def State.uiState (s : State) : Snapshot where
  main := s.main.core.snapshot
  sound := s.sound.core.snapshot
  mainRam := s.main.ram
  soundRam := s.sound.ram
  mainBank := s.main.bank
  soundBank := s.sound.bank
  wdState := s.ctl.wdState
  zcToggleCount := s.ctl.zcToggleCount
  wdExpiredCount := s.ctl.wdExpiredCount
  latchByte := s.latchByte
  latchAvail := s.latchAvail
  diag := s.diag

end Sys2Proof.Machine
end

