-- ==== Sys2Proof/Machine/CycleLock.lean ====
section
/-! DEFINITION. `steps(n)` and `executeCycles` in steps of one agent each (60_exceptions.md R420, R460 to R466), the host's
calls, and the machine's step made of them. -/

namespace Sys2Proof.Machine

/-- The state at another place of the stepping call. -/
def State.withLock (s : State) (l : Lock) : State := { s with lock := l }

/-- The end of a stepping call with its result: no call in progress, `b` in focus. -/
def State.finish (s : State) (b : Board) (r : Option Nat) : State := { s with lock := .idle b, ret := r }

/-- The cycles a core's step consumed: what its `tickCount` grew by. -/
def used (b : Board) (s s' : State) : Nat := (s'.coreOf b).tickCount - (s.coreOf b).tickCount

/-- The loop head of `executeCycles` (R460): the next sub-step's main slice, or the end with `executed` as the result. -/
def State.nextSlice (s : State) (call : ExecCall) : State :=
  if call.executed < call.total then
    s.withLock (.mainSlice call (min call.perStep (call.total - call.executed)) 0)
  else s.finish .main (some call.executed)

/-- The loop head of `steps(n)` (R420). -/
def State.nextOfSteps (s : State) (b : Board) (n done : Nat) : State :=
  if done < n then s.withLock (.steps b n done) else s.finish b (some done)

/-- A core's step inside a stepping call: a fatal condition ends the call at once and nothing is returned (R405, R466);
otherwise the call goes on, given the cycles consumed. -/
def stepInCall (b : Board) (go : Nat → State → State) (s : State) : Out :=
  match coreStep s with
  | .next s' => .next (if s'.fatal.isSome then s'.finish b none else go (used b s s') s')
  | .fault r => .fault r
  | .refused r => .refused r

/-- Phase 1, the main core's slice (R460, R461). -/
def mainSliceStep (call : ExecCall) (want ran : Nat) (s : State) : Out :=
  stepInCall .main (fun t s' =>
    if ran + t < want then s'.withLock (.mainSlice call want (ran + t)) else s'.withLock (.control call (ran + t))) s

/-- Phase 2, the controller (R460 to R463): the ticks are counted, the controller advances, and the sound budget decides
whether the sound board has a slice in this sub-step. -/
def controlStep (call : ExecCall) (t : Nat) (s : State) : Out :=
  if ticksOk s.cfg then
    let call := { call with executed := call.executed + t }
    let s := (({ s with boardTicks := s.boardTicks + t }).advance t)
    let c := s.soundBudget t
    let s := s.carrySound t
    .next (if c > 0 then s.withLock (.soundSlice call c 0) else s.nextSlice call)
  else .refused .configRefused

/-- Phase 3, the sound core's slice (R461, R463). -/
def soundSliceStep (call : ExecCall) (budget ran : Nat) (s : State) : Out :=
  stepInCall .sound (fun t s' =>
    if ran + t < budget then s'.withLock (.soundSlice call budget (ran + t))
    else s'.withLock (.soundEnd call (ran + t))) s

/-- Phase 4, the FM chip and the timer hack (R463, R470, R471). -/
def soundEndStep (call : ExecCall) (ts : Nat) (s : State) : Out :=
  if ticksOk s.cfg then .next ((s.endSound ts).nextSlice call) else .refused .configRefused

/-- A bus access made by the host (95_test_vectors.md section 4, R402). -/
def hostBus {α : Type} (m : Op α) (s : State) : Out :=
  match m s with
  | .ok _ s' => .next s'
  | .error _ s' => .next s'

/-- `step()` of a core, called by the host (R419): one core step; its result is the number of cycles consumed, 0 when the step
ends in a fatal condition. -/
def stepCall (b : Board) (s : State) : Out :=
  match coreStep (s.withLock (.idle b)) with
  | .next s' => .next { s' with ret := some (used b s s') }
  | .fault r => .fault r
  | .refused r => .refused r

/-- A host call, made between steps on a machine that is not halted (R407 to R410, R418, R420, R431, R460, R480, R497,
R499); `ticksPerStep < 1` and an NMI the core does not have are refused (93_implementation_defined.md U14). -/
def hostCall (k : HostCall) (s : State) : Out :=
  match k with
  | .irq b => .next (s.irq b)
  | .firq b => .next (s.firq b)
  | .nmi b => if s.cfg.hasNmi then .next (s.modCoreOf b Core.nmi) else .refused (.hostCallRefused k)
  | .clearIrqMasking b => .next (s.modCoreOf b Core.clearIrqMasking)
  | .step b => stepCall b s
  | .steps b n => .next (s.nextOfSteps b n 0)
  | .executeCycles total perStep =>
    if perStep < 1 then .refused (.hostCallRefused k) else .next (s.nextSlice ⟨total, perStep, 0⟩)
  | .advance t => if ticksOk s.cfg then .next (s.advance t) else .refused .configRefused
  | .reset => .next s.resetAll
  | .resetBoard b => .next (s.resetBoard b)
  | .busRead b a => hostBus (busRead b a) s
  | .busWrite b a v => hostBus (busWrite b a v) s
  | .setDirectInput row v => .next (s.record (.directInput row v))
  | .setCabinetInput bitmask => .next (s.record (.cabinetInput bitmask))

/-- A machine with no stepping call in progress: the next host call, or, when none is queued, one step of the core in focus
(R474; log entry 14). -/
def idleMachineStep (s : State) : Out :=
  match s.host with
  | k :: ks => hostCall k { s with host := ks }
  | [] => coreStep s

/-- A machine whose `fatal` is none. -/
def runningStep (s : State) : Out :=
  match s.lock with
  | .idle _ => idleMachineStep s
  | .steps b n done => stepInCall b (fun t s' => s'.nextOfSteps b n (done + t)) s
  | .mainSlice call want ran => mainSliceStep call want ran s
  | .control call t => controlStep call t s
  | .soundSlice call budget ran => soundSliceStep call budget ran s
  | .soundEnd call ts => soundEndStep call ts s

/-- A machine whose `fatal` is not none: no agent has a step; only a queued reset is performed (10_state.md R49, R405,
R466). -/
def haltedStep (s : State) : Out :=
  match s.host with
  | .reset :: ks => .next (State.resetAll { s with host := ks, lock := .idle s.active })
  | .resetBoard b :: ks => .next (State.resetBoard { s with host := ks, lock := .idle s.active } b)
  | _ => .fault .halted

end Sys2Proof.Machine
end

