-- ==== Sys2Proof/Machine/Load.lean ====
section
/-! DEFINITION. Placing bytes where a core fetches: the load of a program from outside the machine (log entry 6). -/

namespace Sys2Proof.Machine

/-- The machine with one board's arguments replaced. -/
def State.setBoardCfg (s : State) (b : Board) (c : BoardCfg) : State :=
  match b with
  | .main => { s with cfg := { s.cfg with main := c } }
  | .sound => { s with cfg := { s.cfg with sound := c } }

/-- A board's fixed ROM image replaced. -/
def State.setFixedRom (s : State) (b : Board) (m : Image) : State :=
  s.setBoardCfg b { s.cfg.board b with fixedRom := m }

/-- A board's banked ROM image replaced. -/
def State.setBankedRom (s : State) (b : Board) (m : Image) : State :=
  s.setBoardCfg b { s.cfg.board b with bankedRom := m }

/-- A byte placed at an address of a board, in whatever stands there: the RAM, the ROM images, or the backing storage of
the hardware window. -/
def State.poke (s : State) (b : Board) (a : Nat) (v : Byte) : State :=
  match decodeAddr (s.cfg.board b) a with
  | some ⟨.ram, off⟩ => s.setRam b off v
  | some ⟨.hardware, off⟩ => s.setShadow b off v
  | some ⟨.rom, off⟩ => s.setFixedRom b ((s.cfg.board b).fixedRom.write off v)
  | some ⟨.bankswitched, off⟩ =>
    s.setBankedRom b ((s.cfg.board b).bankedRom.write ((s.bd b).bank * (s.cfg.board b).window + off) v)
  | none => s

/-- Bytes placed at consecutive addresses, wrapping at the end of the address space. -/
def State.pokeList (s : State) (b : Board) (a : Word) : List Byte → State
  | [] => s
  | v :: vs => (s.poke b a.toNat v).pokeList b (a + 1#16) vs

/-- The machine about to step the core in focus: not halted, no call in progress and none queued, the core running with no
latch pending. -/
def State.readyToRun (s : State) : State :=
  { s with fatal := none, lock := .idle s.active, host := [] }.modCoreOf s.active fun c =>
    { c with wait := .run, pendingIRQ := false, pendingFIRQ := false, pendingNMI := false }

/-- The machine with an instruction's bytes where its next step fetches. -/
def State.withFetchBytes (s : State) (bs : List Byte) : State :=
  s.readyToRun.pokeList s.active s.core.pc bs

end Sys2Proof.Machine
end

