-- ==== Sys2Proof/Machine/Step.lean ====
section
/-! DEFINITION. The machine's step: one step of the agent whose turn it is (60_exceptions.md R405, R419, R424, R461). -/

namespace Sys2Proof.Machine

/-- One step of the machine; a fatal state comes first (R424). -/
def step (s : State) : Host.Outcome State Fault Refusal :=
  match s.fatal with
  | some _ => haltedStep s
  | none => runningStep s

/-- The machine with the instruction whose first `nbits` bits the opcode table numbers as `w` where its next step fetches
(log entries 6 and 19). -/
def State.withFetchWord (s : State) (nbits w : Nat) : State := s.withFetchBytes (tableBytes nbits w)

end Sys2Proof.Machine
end

