-- ==== Sys2Proof/Safety.lean ====
section
/-! DEFINITION. The terms in which the claims speak: the invariant of a run, what a read and a write of the bus may change,
which bytes stand where, and the cycles an instruction consumes. Nothing here is called by the machine. -/

namespace Sys2Proof

open Machine

/-- The cycles an operand adds to the `cycles` column (30_encoding.md R150, R151): those of its postbyte. -/
def MemOp.addend (m : MemOp) (c : Cfg) : Nat :=
  match m with
  | .idx p => c.cycles.indexed p.postbyte
  | _ => 0

/-- The cycles a source operand adds. -/
def Src8.addend (o : Src8) (c : Cfg) : Nat :=
  match o with
  | .mem m => m.addend c
  | .imm _ => 0

/-- The cycles a source operand adds. -/
def Src16.addend (o : Src16) (c : Cfg) : Nat :=
  match o with
  | .mem m => m.addend c
  | .imm _ => 0

/-- The registers an operand's addressing mode updates, on the core (40_load_store.md R160). -/
def MemOp.update (m : MemOp) (c : Core) : Core :=
  match m with
  | .idx p => p.update c
  | _ => c

/-- The registers a source operand's addressing mode updates. -/
def Src8.update (o : Src8) (c : Core) : Core :=
  match o with
  | .mem m => m.update c
  | .imm _ => c

/-- The registers a source operand's addressing mode updates. -/
def Src16.update (o : Src16) (c : Core) : Core :=
  match o with
  | .mem m => m.update c
  | .imm _ => c

/-- The instructions that store to memory or push (R168 to R174, R223 to R232, R271 to R288, R303, R305, R353, R354, R356,
R371 to R373, R375). -/
def Instr.stores : Instr → Bool
  | .staDir _ | .staIdx _ | .staExt _ | .stbDir _ | .stbIdx _ | .stbExt _ => true
  | .stdDir _ | .stdIdx _ | .stdExt _ | .stxDir _ | .stxIdx _ | .stxExt _ => true
  | .styDir _ | .styIdx _ | .styExt _ | .stuDir _ | .stuIdx _ | .stuExt _ => true
  | .stsDir _ | .stsIdx _ | .stsExt _ => true
  | .negDir _ | .negIdx _ | .negExt _ | .comDir _ | .comIdx _ | .comExt _ => true
  | .lsrDir _ | .lsrIdx _ | .lsrExt _ | .rorDir _ | .rorIdx _ | .rorExt _ => true
  | .asrDir _ | .asrIdx _ | .asrExt _ | .aslDir _ | .aslIdx _ | .aslExt _ => true
  | .rolDir _ | .rolIdx _ | .rolExt _ | .decDir _ | .decIdx _ | .decExt _ => true
  | .incDir _ | .incIdx _ | .incExt _ | .clrDir _ | .clrIdx _ | .clrExt _ => true
  | .pshs _ | .pshu _ | .bsr _ | .lbsr _ | .jsrDir _ | .jsrIdx _ | .jsrExt _ => true
  | .swi | .swi2 | .swi3 | .cwai _ => true
  | _ => false

/-- The address is not in a board's hardware window: a read of it has no side effect (20_memory.md R62, R87). -/
def BoardCfg.plain (c : BoardCfg) (a : Word) : Bool := !inWindow c a.toNat

/-- The address shows a byte of the board's banked ROM (R73, R79). -/
def BoardCfg.banked (c : BoardCfg) (a : Nat) : Bool :=
  decide (c.ramEnd ≤ a) && decide (c.hwEnd ≤ a) && decide (a < c.bankEnd)

/-- A write of the byte at the address ends in `BankError` (20_memory.md R80; 60_exceptions.md R403). -/
def BoardCfg.rejects (c : BoardCfg) (a : Word) (v : Byte) : Bool :=
  inWindow c a.toNat && decide (a.toNat = c.bankSelect) && (acceptedBank c v).isNone

/-- No byte of a push onto `sp`, the first one first, ends in `BankError`. -/
def BoardCfg.acceptsPush (c : BoardCfg) (sp : Word) : List Byte → Bool
  | [] => true
  | v :: vs => !c.rejects (sp - 1#16) v && c.acceptsPush (sp - 1#16) vs

/-- `n` consecutive addresses from `a` up, wrapping, hold plain bytes. -/
def BoardCfg.plainRange (c : BoardCfg) (a : Word) : Nat → Bool
  | 0 => true
  | n + 1 => c.plain a && c.plainRange (a + 1#16) n

/-- The opcode column of an accumulator in the rows `8x` to `Fx` of the opcode map (30_encoding.md R140). -/
def Acc.column : Acc → Nat
  | .a => 0x00
  | .b => 0x40

/-- The opcode column of a memory operand in the rows `9x` to `Bx` and `Dx` to `Fx` (R140 to R142). -/
def MemOp.column : MemOp → Nat
  | .dir _ => 0x10
  | .idx _ => 0x20
  | .ext _ => 0x30

/-- The opcode column of a source operand: the immediate form stands in the rows `8x` and `Cx`. -/
def Src8.column : Src8 → Nat
  | .imm _ => 0x00
  | .mem m => m.column

/-- The opcode column of a source operand. -/
def Src16.column : Src16 → Nat
  | .imm _ => 0x00
  | .mem m => m.column

/-- The opcode column of a read-modify-write operand: the rows `0x`, `6x` and `7x` (42_logic_shift.md R289). -/
def MemOp.rmwColumn : MemOp → Nat
  | .dir _ => 0x00
  | .idx _ => 0x60
  | .ext _ => 0x70

/-- The opcode of a one-operand operation in row `0x` (R140). -/
def Un8.column : Un8 → Nat
  | .neg => 0x0
  | .com => 0x3
  | .lsr => 0x4
  | .ror => 0x6
  | .asr => 0x7
  | .asl => 0x8
  | .rol => 0x9
  | .dec => 0xA
  | .inc => 0xC
  | .tst => 0xD
  | .clr => 0xF

/-- The code `cccc` of a branch condition (44_branch.md R320). -/
def Cond.code : Cond → Nat
  | .ra => 0x0
  | .rn => 0x1
  | .hi => 0x2
  | .ls => 0x3
  | .cc => 0x4
  | .cs => 0x5
  | .ne => 0x6
  | .eq => 0x7
  | .vc => 0x8
  | .vs => 0x9
  | .pl => 0xA
  | .mi => 0xB
  | .ge => 0xC
  | .lt => 0xD
  | .gt => 0xE
  | .le => 0xF

end Sys2Proof

namespace Sys2Proof.Machine

/-- The arguments of the stepping core's board. -/
def State.myCfg (s : State) : BoardCfg := s.cfg.board s.active

/-- What stands at an address of the stepping core's board, read without side effects. -/
def State.at (s : State) (a : Word) : Byte := s.peek s.active a.toNat

/-- What stands at an address and the one after it, high byte first (20_memory.md R61, R64). -/
def State.at16 (s : State) (a : Word) : Word := word (s.at a) (s.at (a + 1#16))

/-- The effective address of a memory operand, the pointer of an indirect one read without side effects (R160; 30_encoding.md
R116, R117, R135). -/
def State.address (s : State) (m : MemOp) : Word :=
  match m with
  | .dir a => word s.core.dp a
  | .idx p => if p.isIndirect then s.at16 (p.pointer s.core) else p.pointer s.core
  | .ext a => a

/-- The pointer of an indirect operand stands outside the hardware window. -/
def State.plainPointer (s : State) (m : MemOp) : Bool :=
  match m with
  | .idx p =>
    if p.isIndirect then s.myCfg.plain (p.pointer s.core) && s.myCfg.plain (p.pointer s.core + 1#16) else true
  | _ => true

/-- The byte of a source operand, read without side effects. -/
def State.value8 (s : State) (o : Src8) : Byte :=
  match o with
  | .imm v => v
  | .mem m => s.at (s.address m)

/-- The word of a source operand, read without side effects. -/
def State.value16 (s : State) (o : Src16) : Word :=
  match o with
  | .imm v => v
  | .mem m => s.at16 (s.address m)

/-- Neither the operand nor the pointer to it stands in the hardware window. -/
def State.plain8 (s : State) (o : Src8) : Bool :=
  match o with
  | .imm _ => true
  | .mem m => s.plainPointer m && s.myCfg.plain (s.address m)

/-- Neither byte of the operand, nor the pointer to it, stands in the hardware window. -/
def State.plain16 (s : State) (o : Src16) : Bool :=
  match o with
  | .imm _ => true
  | .mem m => s.plainPointer m && s.myCfg.plain (s.address m) && s.myCfg.plain (s.address m + 1#16)

/-- The state a write by the stepping core leaves, whether or not it is the last thing of its step (R63). -/
def State.stored (s : State) (a : Word) (v : Byte) : State :=
  match memWrite8 a v s with
  | .ok _ s' => s'
  | .error _ s' => s'

/-- The state after bytes are pushed one by one, the first one first (20_memory.md R67). -/
def State.pushed (s : State) (p : StackPtr) : List Byte → State
  | [] => s
  | v :: vs =>
    (((s.modCore fun c => c.setSp p (c.sp p - 1#16)).stored (s.core.sp p - 1#16) v)).pushed p vs

/-- A word's bytes in the order they are pushed, low byte first (R67). -/
def pushOrder (w : Word) : List Byte := [loByte w, hiByte w]

/-- What `PSHS` and `PSHU` push, in order (43_transfer_stack.md R303, R305). -/
def pushList (p : StackPtr) (m : Byte) (c : Core) : List Byte :=
  (if m.getLsbD 7 then pushOrder c.pc else []) ++ (if m.getLsbD 6 then pushOrder (c.sp p.other) else []) ++
  (if m.getLsbD 5 then pushOrder c.y else []) ++ (if m.getLsbD 4 then pushOrder c.x else []) ++
  (if m.getLsbD 3 then [c.dp] else []) ++ (if m.getLsbD 2 then [c.b] else []) ++
  (if m.getLsbD 1 then [c.a] else []) ++ (if m.getLsbD 0 then [c.cc.toByte] else [])

/-- What a full-state entry pushes, in order: the twelve bytes of `PushAll` (45_system.md R378). -/
def fullFrame (c : Core) : List Byte :=
  pushOrder c.pc ++ pushOrder c.u ++ pushOrder c.y ++ pushOrder c.x ++ [c.dp, c.b, c.a, c.cc.toByte]

/-- What an entry pushes, in order: twelve bytes, or three for FIRQ (60_exceptions.md R412 to R414). -/
def entryFrame (k : Entry) (c : Core) : List Byte :=
  if k.entire then fullFrame c else pushOrder c.pc ++ [c.cc.toByte]

/-- The bytes that stand at consecutive addresses from `a` up are `bs`. -/
def State.shows (s : State) (a : Word) : List Byte → Bool
  | [] => true
  | v :: vs => decide (s.at a = v) && s.shows (a + 1#16) vs

/-- Two cores that differ at most in what an assertion of a line or a read of the sound latch changes: the IRQ and FIRQ
latches, their missed counts, and a mask I that was set and is clear now (60_exceptions.md R408, R409, R418). -/
def Core.SameButLines (c c' : Core) : Prop :=
  ∃ (pi pf : Bool) (mi mf : Nat) (i : Bool), (i = true → c.cc.i = true) ∧
    c' = { c with pendingIRQ := pi, pendingFIRQ := pf, missedIRQ := mi, missedFIRQ := mf, cc := { c.cc with i := i } }

/-- What reads by the stepping core may change, and nothing else: the lines of both cores, the zero-cross flag, the
periodic-IRQ enable, the diagnostic record and the history of the devices (20_memory.md R84, R86, R87). -/
def State.ReadEffect (s s' : State) : Prop :=
  ∃ (cm cs : Core) (zf pe : Bool) (diag : List Diag) (dev : List DevEvent),
    s.main.core.SameButLines cm ∧ s.sound.core.SameButLines cs ∧
      s' = { s with
        main := { s.main with core := cm }
        sound := { s.sound with core := cs }
        ctl := { s.ctl with zcFlag := zf, periodicIrqEnable := pe }
        diag := diag
        dev := dev }

/-- What a write by the stepping core leaves as it is: the configuration, the place in the host's call, the cycle lock, the
zero-cross detector and the periodic counter, every register of both cores but the lines, and the other board's memory
(R63, R84, R85, R95). -/
structure State.WriteEffect (s s' : State) : Prop where
  cfg : s'.cfg = s.cfg
  lock : s'.lock = s.lock
  host : s'.host = s.host
  ret : s'.ret = s.ret
  soundCarry : s'.soundCarry = s.soundCarry
  firqHackCounter : s'.firqHackCounter = s.firqHackCounter
  boardTicks : s'.boardTicks = s.boardTicks
  zeroCross : s'.ctl.zcCounter = s.ctl.zcCounter ∧ s'.ctl.zcFlag = s.ctl.zcFlag ∧
    s'.ctl.zcToggleCount = s.ctl.zcToggleCount
  irqCounter : s'.ctl.irqCounter = s.ctl.irqCounter
  expired : s'.ctl.wdExpiredCount = s.ctl.wdExpiredCount
  cores : ∀ b, (s.coreOf b).SameButLines (s'.coreOf b)
  other : ∀ b, b ≠ s.active → (s'.bd b).ram = (s.bd b).ram ∧ (s'.bd b).hwShadow = (s.bd b).hwShadow ∧
    (s'.bd b).bank = (s.bd b).bank

/-- What one core's step may change of the other board: that core's IRQ and FIRQ latches and their missed counts
(20_memory.md R95; 60_exceptions.md R451, R456). -/
def BoardState.Asserted (b b' : BoardState) : Prop :=
  ∃ (pi pf : Bool) (mi mf : Nat),
    b' = { b with core := { b.core with pendingIRQ := pi, pendingFIRQ := pf, missedIRQ := mi, missedFIRQ := mf } }

/-- A board whose RAM, register shadow and bank are replaced; its core and the configuration stay. -/
def State.withMemoryOf (s : State) (b : Board) (ram shadow : Memory) (bank : Nat) : State :=
  s.setBd b { s.bd b with ram := ram, hwShadow := shadow, bank := bank }

/-- A change made to the next state of an outcome. -/
def mapNext (f : State → State) : Out → Out
  | .next s => .next (f s)
  | .fault r => .fault r
  | .refused r => .refused r

/-- A board's memories are in canonical form and its bank is a bank of its ROM (10_state.md R44, R48). -/
def BoardState.ok (b : BoardState) (c : BoardCfg) : Prop :=
  b.ram.wf = true ∧ b.ram.below c.ramSize = true ∧ b.hwShadow.wf = true ∧ b.hwShadow.below c.hwEnd = true ∧
    b.bank < c.banks

/-- The watchdog's counter and state agree (60_exceptions.md R432). -/
def Controller.watchdogOk (k : Controller) (c : Cfg) : Prop :=
  match k.wdState with
  | .idle => k.wdCounter = c.watchdogReload
  | .armed => 0 < k.wdCounter ∧ k.wdCounter ≤ c.watchdogReload
  | .expired => k.wdCounter = 0

/-- A core has no NMI state when the machine has no NMI (60_exceptions.md R410). -/
def Core.nmiOk (c : Core) (hasNmi : Bool) : Prop :=
  hasNmi = false → c.pendingNMI = false ∧ c.nmiArmed = false

/-- The invariant of every run: the configuration meets 00_scope.md R7, the memories are canonical and each bank is in its
ROM, and the counters stay in the ranges of 10_state.md R45 and R47. -/
structure State.Inv (s : State) : Prop where
  cfg : cfgOk s.cfg = true
  main : s.main.ok s.cfg.main
  sound : s.sound.ok s.cfg.sound
  watchdog : s.ctl.watchdogOk s.cfg
  zeroCross : s.ctl.zcCounter < s.cfg.zeroCrossPeriod
  periodic : s.ctl.irqCounter < s.cfg.irqPeriod
  carry : s.soundCarry < s.cfg.soundClkDen
  firqHack : s.firqHackCounter < s.cfg.firqHackTicks
  nmiMain : s.main.core.nmiOk s.cfg.hasNmi
  nmiSound : s.sound.core.nmiOk s.cfg.hasNmi

/-- The machine is about to take a step of the core in focus, and that step executes an instruction: not halted, no call
in progress or queued, the core running with no interrupt due (60_exceptions.md R411, R419). -/
def State.ready (s : State) : Prop :=
  s.fatal = none ∧ s.lock = .idle s.active ∧ s.host = [] ∧ s.core.wait = .run ∧ s.core.due s.cfg.hasNmi = none

/-- The effective address of a memory operand is `a`, and `t` is the state once it is known (40_load_store.md R160): the base
register of an auto mode is updated, and beside it only what a read may change. When the pointer of an indirect operand
stands outside the hardware window, or there is none, nothing else changes. -/
def Addresses (m : MemOp) (s : State) (a : Word) (t : State) : Prop :=
  ea m s = .ok a t ∧ (s.modCore m.update).ReadEffect t ∧
    (s.plainPointer m = true → a = s.address m ∧ t = s.modCore m.update)

/-- Reading the byte at an address answers `m` and leaves `t` (20_memory.md R62); outside the hardware window it is the byte
that stands there and nothing changes. -/
def ReadsByte (a : Word) (s : State) (m : Byte) (t : State) : Prop :=
  memRead8 a s = .ok m t ∧ s.ReadEffect t ∧ (s.myCfg.plain a = true → m = s.at a ∧ t = s)

/-- Reading an 8-bit source operand answers `m` and leaves `t` (40_load_store.md R160, `Operand8`). -/
def Reads8 (src : Src8) (s : State) (m : Byte) (t : State) : Prop :=
  operand8 src s = .ok m t ∧ (s.modCore src.update).ReadEffect t ∧
    (s.plain8 src = true → m = s.value8 src ∧ t = s.modCore src.update)

/-- Reading a 16-bit source operand answers `m` and leaves `t` (R160, `Operand16`). -/
def Reads16 (src : Src16) (s : State) (m : Word) (t : State) : Prop :=
  operand16 src s = .ok m t ∧ (s.modCore src.update).ReadEffect t ∧
    (s.plain16 src = true → m = s.value16 src ∧ t = s.modCore src.update)

/-- Every byte of both boards' memory reads in `t` as in `s`. -/
def State.SameMemory (s t : State) : Prop := ∀ (b : Board) (x : Nat), t.peek b x = s.peek b x

/-- Every byte of both boards' memory reads in `t` as in `s`, but for the addresses `as` of the stepping core's board, and
for that board's banked window when one of them is its bank-select register (20_memory.md R79, R81). -/
def State.KeepsBut (s t : State) (as : List Word) : Prop :=
  ∀ (b : Board) (x : Nat),
    (b = s.active → (∀ a ∈ as, x ≠ a.toNat) ∧ (s.myCfg.banked x = true → ∀ a ∈ as, a.toNat ≠ s.myCfg.bankSelect)) →
      t.peek b x = s.peek b x

/-- The `n` addresses below a stack pointer, the first one pushed to first (R67). -/
def pushAddrs (sp : Word) : Nat → List Word
  | 0 => []
  | n + 1 => (sp - 1#16) :: pushAddrs (sp - 1#16) n

/-- The core's registers are those of `c`, and its flags are `cc`: what `RTI` has to give back (45_system.md R374). -/
def Core.SameProgram (d : Core) (cc : CC) (c : Core) : Prop :=
  d.a = c.a ∧ d.b = c.b ∧ d.dp = c.dp ∧ d.x = c.x ∧ d.y = c.y ∧ d.u = c.u ∧ d.s = c.s ∧ d.pc = c.pc ∧ d.cc = cc

/-- The NMI is armed when the condition holds (60_exceptions.md R410). -/
def Core.armIf (c : Core) (on : Bool) : Core := { c with nmiArmed := c.nmiArmed || on }

/-- The state a write that ends in `BankError` leaves (60_exceptions.md R403): the raw byte is in the register shadow, the
bank is as before, and the step is over. -/
def State.bankFault (s : State) (a : Word) (v : Byte) : State :=
  { s.setShadow s.active a.toNat v with fatal := some (.bankError s.active v) }

/-- The zero-cross loop of `advance(t)` as the rule writes it (60_exceptions.md R431), its passes bounded by `fuel`. -/
def zeroCrossLoop : Nat → State → State
  | 0, s => s
  | n + 1, s =>
    if s.cfg.zeroCrossPeriod ≤ s.ctl.zcCounter then
      let flag := if s.cfg.zeroCrossMode = .toggle then !s.ctl.zcFlag else true
      let s := { s with ctl := { s.ctl with
        zcCounter := s.ctl.zcCounter - s.cfg.zeroCrossPeriod
        zcFlag := flag
        zcToggleCount := s.ctl.zcToggleCount + 1 } }
      zeroCrossLoop n (if s.cfg.zeroCrossRaisesIrq then s.irq .main else s)
    else s

/-- The periodic-IRQ loop of `advance(t)` as the rule writes it (R431), its passes bounded by `fuel`. -/
def periodicLoop : Nat → State → State
  | 0, s => s
  | n + 1, s =>
    if s.cfg.irqPeriod ≤ s.ctl.irqCounter then
      let s := { s with ctl := { s.ctl with irqCounter := s.ctl.irqCounter - s.cfg.irqPeriod } }
      periodicLoop n (if s.ctl.periodicIrqEnable then s.irq .main else s)
    else s

/-- The timer-hack loop as the rule writes it (R463), its passes bounded by `fuel`. -/
def timerHackLoop : Nat → State → State
  | 0, s => s
  | n + 1, s =>
    if s.cfg.firqHackTicks ≤ s.firqHackCounter then
      timerHackLoop n (State.firq { s with firqHackCounter := s.firqHackCounter - s.cfg.firqHackTicks } .sound)
    else s

/-- The sound budgets of successive sub-steps of `t` ticks each, the carry handed on (R462). -/
def budgets : State → List Nat → List Nat
  | _, [] => []
  | s, t :: ts => s.soundBudget t :: budgets (s.carrySound t) ts

/-- `executeCycles` at its loop head (R460): the main slice of the next sub-step, or the end of the call with its result. -/
def State.atHead (s : State) (call : ExecCall) : State :=
  if call.executed < call.total then
    { s with lock := .mainSlice call (min call.perStep (call.total - call.executed)) 0 }
  else { s with lock := .idle .main, ret := some call.executed }

/-- The `executeCycles` call in progress, if one is. -/
def Lock.call : Lock → Option ExecCall
  | .mainSlice call _ _ => some call
  | .control call _ => some call
  | .soundSlice call _ _ => some call
  | .soundEnd call _ => some call
  | _ => none

/-- Inside `executeCycles`: the cycles of the main core the call has accounted for, the slice in progress included (R460,
R465). -/
def Lock.ticks : Lock → Nat
  | .mainSlice call _ ran => call.executed + ran
  | .control call t => call.executed + t
  | .soundSlice call _ _ => call.executed
  | .soundEnd call _ => call.executed
  | _ => 0

/-- The call's bound inside `executeCycles` (R465): a slice asks for no more ticks than are left and stops short of them until
its last step, which takes fewer than 20 cycles beyond. -/
def Lock.bounded : Lock → Prop
  | .mainSlice call want ran => 1 ≤ call.perStep ∧ ran < want ∧ call.executed + want ≤ call.total
  | .control call t => 1 ≤ call.perStep ∧ call.executed + t < call.total + 20
  | .soundSlice call _ _ => 1 ≤ call.perStep ∧ call.executed < call.total + 20
  | .soundEnd call _ => 1 ≤ call.perStep ∧ call.executed < call.total + 20
  | _ => True

end Sys2Proof.Machine

namespace Sys2Proof

open Machine

/-- The result and the flags of a one-operand operation on `m` (41_arithmetic.md R221 to R235, 42_logic_shift.md R269 to
R288), said in the numbers the bits stand for. -/
def Un8.effect (o : Un8) (cc : CC) (m : Byte) : Byte × CC :=
  let nz (r : Byte) : CC := { cc with n := decide (128 ≤ r.toNat), z := decide (r.toNat = 0) }
  let bit0 := decide (m.toNat % 2 = 1)
  let bit7 := decide (128 ≤ m.toNat)
  let bit6 := decide (64 ≤ m.toNat % 128)
  match o with
  | .neg =>
    let r := BitVec.ofNat 8 (256 - m.toNat)
    (r, { nz r with v := decide (m.toNat = 128), c := decide (m.toNat ≠ 0), h := Config.undefH .neg 0x00#8 m false cc.h })
  | .com =>
    let r := BitVec.ofNat 8 (255 - m.toNat)
    (r, { nz r with v := false, c := true })
  | .lsr =>
    let r := BitVec.ofNat 8 (m.toNat / 2)
    (r, { nz r with n := false, c := bit0 })
  | .ror =>
    let r := BitVec.ofNat 8 (m.toNat / 2 + 128 * cc.c.toNat)
    (r, { nz r with c := bit0 })
  | .asr =>
    let r := BitVec.ofNat 8 (m.toNat / 2 + 128 * bit7.toNat)
    (r, { nz r with c := bit0, h := Config.undefH .asr m 0x00#8 false cc.h })
  | .asl =>
    let r := BitVec.ofNat 8 (2 * m.toNat)
    (r, { nz r with v := bit7 != bit6, c := bit7, h := Config.undefH .asl m 0x00#8 false cc.h })
  | .rol =>
    let r := BitVec.ofNat 8 (2 * m.toNat + cc.c.toNat)
    (r, { nz r with v := bit7 != bit6, c := bit7 })
  | .dec =>
    let r := BitVec.ofNat 8 (m.toNat + 255)
    (r, { nz r with v := decide (m.toNat = 128) })
  | .inc =>
    let r := BitVec.ofNat 8 (m.toNat + 1)
    (r, { nz r with v := decide (m.toNat = 127) })
  | .tst => (m, { nz m with v := false })
  | .clr => (0x00#8, { cc with n := false, z := true, v := false, c := false })

end Sys2Proof
end

