-- ==== Sys2Proof/Certificates/Slice0/Obligations.lean ====
section
/-! DEFINITION. The statements for the provers. They speak of the stepping core `s.active`; a result statement gives the
whole next state as an equation, so it is also the statement that the instruction completes and what it leaves unchanged. -/

open Sys2Proof Sys2Proof.Machine

/-! ### Encoding -/

/-- Words written out from the examples of the instruction rules, one or more for each family, decode to what they stand
for. -/
def Obligations.DecodesWrittenWords : Prop :=
  decode [0x86, 0x80] = .instr (.ldaImm 0x80) [] ∧
  decode [0x10, 0x8E, 0x00, 0x00] = .instr (.ldyImm 0x0000) [] ∧
  decode [0xE6, 0x84] = .instr (.ldbIdx (.zero .x false)) [] ∧
  decode [0x97, 0x10] = .instr (.staDir 0x10) [] ∧
  decode [0x31, 0xA9, 0x01, 0x00] = .instr (.leay (.off16 .y false 0x0100)) [] ∧
  decode [0x11, 0x83, 0x7F, 0xFF] = .instr (.cmpuImm 0x7FFF) [] ∧
  decode [0x3D] = .instr .mul [] ∧
  decode [0x68, 0x84] = .instr (.aslIdx (.zero .x false)) [] ∧
  decode [0x1C, 0xEF] = .instr (.andcc 0xEF) [] ∧
  decode [0x1F, 0x8B] = .instr (.tfr (.r8 .a) (.r8 .dp)) [] ∧
  decode [0x34, 0x06] = .instr (.pshs 0x06) [] ∧
  decode [0x22, 0x10] = .instr (.bhi 0x10) [] ∧
  decode [0x6E, 0x94] = .instr (.jmpIdx (.zero .x true)) [] ∧
  decode [0x10, 0x3F] = .instr .swi2 []

/-- Decoding an encoded instruction gives it back, with every operand at every value. -/
def Obligations.DecodeEncode : Prop :=
  ∀ (i : Instr) (rest : List Byte), i.wellFormed = true → decode (encode i ++ rest) = .instr i rest

/-- Every byte sequence that decodes is the encoding of the instruction it decodes to: no bit of it is dropped. -/
def Obligations.EncodeDecode : Prop :=
  ∀ (i : Instr) (bytes rest : List Byte), decode bytes = .instr i rest →
    i.wellFormed = true ∧ bytes = encode i ++ rest

/-- A beginning of an instruction that is not all of it is neither an instruction nor refused: the decoder asks for one
byte more. -/
def Obligations.ProperBeginnings : Prop :=
  ∀ (i : Instr) (bytes more : List Byte), i.wellFormed = true → encode i = bytes ++ more → more ≠ [] →
    decode bytes = .incomplete

/-- The undefined first bytes, second bytes and postbytes are refused, and nothing else is: the 33 bytes of page 1, all but
38 second bytes of page 2, all but 9 of page 3 (another page byte among the refused), the undefined indexed postbytes, and
the register postbytes with an undefined code or two widths. -/
def Obligations.RefusedEncodings : Prop :=
  (∀ (b : Byte) (rest : List Byte), b ≠ 0x10 → b ≠ 0x11 →
    (decode (b :: rest) = .invalid .page1 ↔
      b ∈ [0x01, 0x02, 0x05, 0x0B, 0x14, 0x15, 0x18, 0x1B, 0x38, 0x3E, 0x41, 0x42, 0x45, 0x4B, 0x4E, 0x51, 0x52, 0x55,
        0x5B, 0x5E, 0x61, 0x62, 0x65, 0x6B, 0x71, 0x72, 0x75, 0x7B, 0x87, 0x8F, 0xC7, 0xCD, 0xCF])) ∧
  (∀ (b : Byte) (rest : List Byte), decode (0x10 :: b :: rest) = .invalid .page2 ↔
    b ∉ [0x21, 0x22, 0x23, 0x24, 0x25, 0x26, 0x27, 0x28, 0x29, 0x2A, 0x2B, 0x2C, 0x2D, 0x2E, 0x2F, 0x3F, 0x83, 0x8C, 0x8E,
      0x93, 0x9C, 0x9E, 0x9F, 0xA3, 0xAC, 0xAE, 0xAF, 0xB3, 0xBC, 0xBE, 0xBF, 0xCE, 0xDE, 0xDF, 0xEE, 0xEF, 0xFE, 0xFF]) ∧
  (∀ (b : Byte) (rest : List Byte), decode (0x11 :: b :: rest) = .invalid .page3 ↔
    b ∉ [0x3F, 0x83, 0x8C, 0x93, 0x9C, 0xA3, 0xAC, 0xB3, 0xBC]) ∧
  (∀ (f : Indexed → Instr) (pb : Byte) (rest : List Byte), decodeOperand (.idx f) (pb :: rest) = .invalid .postbyte ↔
    128 ≤ pb.toNat ∧
      (let mode := pb.toNat % 16
       let ind := pb.toNat / 16 % 2
       let rr := pb.toNat / 32 % 4
       mode = 7 ∨ mode = 10 ∨ mode = 14 ∨ ((mode = 0 ∨ mode = 2) ∧ ind = 1) ∨ (mode = 15 ∧ (ind = 0 ∨ rr ≠ 0)))) ∧
  (∀ (op pb : Byte) (rest : List Byte), op = 0x1E ∨ op = 0x1F →
    (decode (op :: pb :: rest) = .invalid .registerPair ↔
      ¬ ((pb.toNat / 16 ≤ 5 ∧ pb.toNat % 16 ≤ 5) ∨
        (8 ≤ pb.toNat / 16 ∧ pb.toNat / 16 ≤ 11 ∧ 8 ≤ pb.toNat % 16 ∧ pb.toNat % 16 ≤ 11))))

/-! ### The step -/

/-- When the bytes at PC are the encoding of a well-formed instruction, outside the hardware window, the step of a machine
that is ready to run is `exec` of it, with PC moved past those bytes. -/
def Obligations.StepRunsDecoded : Prop :=
  ∀ (s : State) (i : Instr), s.ready → i.wellFormed = true → s.shows s.core.pc (encode i) = true →
    s.myCfg.plainRange s.core.pc (encode i).length = true →
      step s = exec i (s.modCore fun c => { c with pc := c.pc + BitVec.ofNat 16 (encode i).length })

/-- When the bytes at PC are refused by the decoder, and no shorter beginning of them is, the step records `InvalidOpcode`
with the address of the first and the bytes fetched: PC has moved past them, no other register and no memory is written, no
cycle is counted. -/
def Obligations.StepInvalidOpcode : Prop :=
  ∀ (s : State) (bytes : List Byte) (why : DecodeError), s.ready → decode bytes = .invalid why →
    (∀ some more, bytes = some ++ more → more ≠ [] → decode some = .incomplete) →
    s.shows s.core.pc bytes = true → s.myCfg.plainRange s.core.pc bytes.length = true →
      step s = .next { (s.modCore fun c => { c with pc := c.pc + BitVec.ofNat 16 bytes.length }) with
        fatal := some (.invalidOpcode s.active s.core.pc bytes) }

/-- An instruction always answers a next state, and leaves the configuration, the host's call and its queue, and the cycle
lock as they are. -/
def Obligations.ExecAlwaysNext : Prop :=
  ∀ (i : Instr) (s : State), ∃ t, exec i s = .next t ∧ t.cfg = s.cfg ∧ t.lock = s.lock ∧ t.host = s.host ∧ t.ret = s.ret ∧
    t.soundCarry = s.soundCarry ∧ t.firqHackCounter = s.firqHackCounter ∧ t.boardTicks = s.boardTicks

/-! ### Memory -/

/-- The four regions of each board in order, and the offset in each. -/
def Obligations.DecodeRegions : Prop :=
  ∀ (c : Cfg) (b : Board) (a : Nat), boardOk (c.board b) = true →
    (a < (c.board b).ramEnd → decodeAddr (c.board b) a = some ⟨.ram, a⟩) ∧
    ((c.board b).ramEnd ≤ a → a < (c.board b).hwEnd → decodeAddr (c.board b) a = some ⟨.hardware, a⟩) ∧
    ((c.board b).hwEnd ≤ a → a < (c.board b).bankEnd →
      decodeAddr (c.board b) a = some ⟨.bankswitched, a - (c.board b).hwEnd⟩) ∧
    ((c.board b).bankEnd ≤ a → a < 0x10000 → decodeAddr (c.board b) a = some ⟨.rom, a - (c.board b).bankEnd⟩) ∧
    (0x10000 ≤ a → decodeAddr (c.board b) a = none)

/-- One byte read and one byte written, region by region: RAM is read and written at the address, fixed and banked ROM are
read and a write of them changes nothing, and the hardware window goes to its registers. -/
def Obligations.BusAccess : Prop :=
  ∀ (s : State) (a : Word) (v : Byte), boardOk s.myCfg = true →
    (a.toNat < s.myCfg.ramEnd →
      memRead8 a s = .ok ((s.bd s.active).ram.read a.toNat) s ∧ memWrite8 a v s = .ok () (s.setRam s.active a.toNat v)) ∧
    (s.myCfg.ramEnd ≤ a.toNat → a.toNat < s.myCfg.hwEnd →
      memRead8 a s = .ok (s.hwRead s.active a.toNat).1 (s.hwRead s.active a.toNat).2 ∧
      memWrite8 a v s = hwWrite s.active a.toNat v s) ∧
    (s.myCfg.hwEnd ≤ a.toNat → a.toNat < s.myCfg.bankEnd →
      memRead8 a s = .ok (s.myCfg.bankedRom.read
        ((s.bd s.active).bank * s.myCfg.window + (a.toNat - s.myCfg.hwEnd))) s ∧
      memWrite8 a v s = .ok () s) ∧
    (s.myCfg.bankEnd ≤ a.toNat →
      memRead8 a s = .ok (s.myCfg.fixedRom.read (a.toNat - s.myCfg.bankEnd)) s ∧ memWrite8 a v s = .ok () s)

/-- A byte stored in RAM is what the next read of that address answers, and every other byte of both boards reads as
before. -/
def Obligations.RamReadsBack : Prop :=
  ∀ (s : State) (a : Word) (v : Byte), (s.bd s.active).ram.wf = true → a.toNat < s.myCfg.ramEnd →
    memRead8 a (s.stored a v) = .ok v (s.stored a v) ∧
    ∀ (b : Board) (x : Nat), b ≠ s.active ∨ x ≠ a.toNat → (s.stored a v).peek b x = s.peek b x

/-- A 16-bit read is two byte reads and a 16-bit write two byte writes, the high byte at the lower address first, the
second address wrapping; a write whose first byte ends in `BankError` does not make the second. -/
def Obligations.SixteenBitAccess : Prop :=
  ∀ (s : State) (a v : Word),
    (∃ hi s₁ lo s₂, ReadsByte a s hi s₁ ∧ ReadsByte (a + 1#16) s₁ lo s₂ ∧ memRead16 a s = .ok (word hi lo) s₂) ∧
    (s.myCfg.rejects a (hiByte v) = false →
      memWrite16 a v s = memWrite8 (a + 1#16) (loByte v) (s.stored a (hiByte v))) ∧
    (s.myCfg.rejects a (hiByte v) = true → memWrite16 a v s = .error () (s.bankFault a (hiByte v)))

/-- A byte write changes the byte at its address, what its register does, and nothing else: every other byte reads as
before, the configuration, the place in the host's call and both cores' registers stay, and of the other board's memory
nothing changes. It ends in `BankError` exactly when the bank-select register rejects the byte. -/
def Obligations.StoredFrame : Prop :=
  ∀ (s : State) (a : Word) (v : Byte),
    s.KeepsBut (s.stored a v) [a] ∧ s.WriteEffect (s.stored a v) ∧
    (s.myCfg.rejects a v = false → memWrite8 a v s = .ok () (s.stored a v)) ∧
    (s.myCfg.rejects a v = true → memWrite8 a v s = .error () (s.stored a v) ∧ s.stored a v = s.bankFault a v)

/-- The bank-select register: a byte that names a bank of the ROM selects it and is recorded; any other byte, one that names no
bank and one that names a bank beyond the ROM, is recorded and ends in `BankError` with the bank as before; a read answers the
recorded byte. Given where no other register stands at the address: which comes first there is the model's choice (log entry
13). -/
def Obligations.BankSelect : Prop :=
  ∀ (s : State) (a : Word) (v : Byte), boardOk s.myCfg = true → a.toNat = s.myCfg.bankSelect →
    (s.active = .main → a.toNat ≠ s.cfg.watchdogAddr ∧ a.toNat ≠ s.cfg.zeroCrossAddr ∧ a.toNat ≠ s.cfg.soundDataAddr) →
    (s.active = .sound → a.toNat ≠ s.cfg.latchReadAddr) →
    (∀ i, bankOf s.myCfg v = some i → i < s.myCfg.banks →
      memWrite8 a v s = .ok () ((s.setShadow s.active a.toNat v).setBank s.active i)) ∧
    ((∀ i, bankOf s.myCfg v = some i → ¬ i < s.myCfg.banks) → memWrite8 a v s = .error () (s.bankFault a v)) ∧
    memRead8 a s = .ok ((s.bd s.active).hwShadow.read a.toNat) s

/-- The main board's watchdog register and zero-cross register, which may be one: a write of the first, whatever the byte,
reloads the counter and arms the watchdog, or brings it back to IDLE when it has expired; a read of the second answers the
flag's bits and, in mode `set_clear_on_read`, clears the flag. Given where the bank-select register and, for the write, the
sound-data register stand elsewhere: which comes first there is the model's choice (log entry 13). -/
def Obligations.WatchdogAndZeroCross : Prop :=
  ∀ (s : State) (a : Word) (v : Byte), s.active = .main → boardOk s.cfg.main = true → a.toNat ≠ s.cfg.main.bankSelect →
    s.cfg.main.ramEnd ≤ a.toNat → a.toNat < s.cfg.main.hwEnd →
    (a.toNat = s.cfg.watchdogAddr → a.toNat ≠ s.cfg.soundDataAddr →
      memWrite8 a v s = .ok () { s.setShadow .main a.toNat v with
        ctl := { s.ctl with
          wdState := if s.ctl.wdState = .expired then .idle else .armed
          wdCounter := s.cfg.watchdogReload } }) ∧
    (a.toNat = s.cfg.zeroCrossAddr →
      memRead8 a s = .ok (if s.ctl.zcFlag then s.cfg.zeroCrossMask else 0x00#8)
        (if s.cfg.zeroCrossMode = .toggle then s else { s with ctl := { s.ctl with zcFlag := false } }))

/-- The sound latch: a byte the main core writes to the sound-data register is in the latch and asserts the sound core's IRQ
once; the sound core's read of the latch answers it unmodified and clears its own mask I, and nothing else changes, so a
second read answers it again. Given where no other register shares the address: which comes first there is the model's
choice (log entry 13). -/
def Obligations.SoundLatch : Prop :=
  ∀ (s : State) (a : Word) (v : Byte),
    (s.active = .main → boardOk s.cfg.main = true → a.toNat = s.cfg.soundDataAddr → a.toNat ≠ s.cfg.main.bankSelect →
      a.toNat ≠ s.cfg.watchdogAddr → s.cfg.main.ramEnd ≤ a.toNat → a.toNat < s.cfg.main.hwEnd →
      memWrite8 a v s = .ok () (State.modCoreOf { s.setShadow .main a.toNat v with latchByte := v, latchAvail := true } .sound
        fun c => { c with
          pendingIRQ := true
          missedIRQ := if c.pendingIRQ then c.missedIRQ + 1 else c.missedIRQ })) ∧
    (s.active = .sound → boardOk s.cfg.sound = true → a.toNat = s.cfg.latchReadAddr →
      a.toNat ≠ s.cfg.sound.bankSelect → s.cfg.sound.ramEnd ≤ a.toNat → a.toNat < s.cfg.sound.hwEnd →
      memRead8 a s = .ok s.latchByte (s.modCoreOf .sound fun c => { c with cc := { c.cc with i := false } }))

/-- The fallback of the hardware window. A write that no block owns and no device is wired to, a write of the zero-cross or of
the latch-read register among them, is recorded in the shadow and in the diagnostic record; a read that no block owns and no
device is wired to, a read of the watchdog or of the sound-data register among them, answers the shadow's byte and is
recorded; and execution goes on. That the direction no block owns goes the way of any other address is, for the read of the
sound-data register, the model's reading (log entry 12); which addresses are wired to a device is the model's field `devPorts`
(log entry 10). -/
def Obligations.UnownedRegister : Prop :=
  ∀ (s : State) (a : Word) (v : Byte), boardOk s.myCfg = true → s.myCfg.ramEnd ≤ a.toNat → a.toNat < s.myCfg.hwEnd →
    a.toNat ≠ s.myCfg.bankSelect → s.wired s.active a.toNat = false →
    ((s.active = .main → a.toNat ≠ s.cfg.watchdogAddr ∧ a.toNat ≠ s.cfg.soundDataAddr) →
      memWrite8 a v s = .ok () { s.setShadow s.active a.toNat v with diag := s.diag ++ [⟨s.active, a.toNat, .write⟩] }) ∧
    ((s.active = .main → a.toNat ≠ s.cfg.zeroCrossAddr) → (s.active = .sound → a.toNat ≠ s.cfg.latchReadAddr) →
      memRead8 a s = .ok ((s.bd s.active).hwShadow.read a.toNat)
        { s with diag := s.diag ++ [⟨s.active, a.toNat, .read⟩] })

/-- Pushing bytes moves the stack pointer down by their number and changes no other register; with the stack in RAM each
byte stands one address below the one pushed before it, and every other byte of memory reads as before. Pulling outside the
hardware window answers what stands at the stack pointer, the high byte at the lower address, and moves it up. -/
def Obligations.PushPull : Prop :=
  ∀ (s : State) (p : StackPtr) (v : Word) (bytes : List Byte),
    (s.myCfg.acceptsPush (s.core.sp p) (pushOrder v) = true → push16 p v s = .ok () (s.pushed p (pushOrder v))) ∧
    (s.core.setSp p (s.core.sp p - BitVec.ofNat 16 bytes.length)).SameButLines (s.pushed p bytes).core ∧
    s.KeepsBut (s.pushed p bytes) (pushAddrs (s.core.sp p) bytes.length) ∧
    ((s.bd s.active).ram.wf = true → bytes.length ≤ 0x10000 →
      (∀ a ∈ pushAddrs (s.core.sp p) bytes.length, a.toNat < s.myCfg.ramEnd) →
      (pushAddrs (s.core.sp p) bytes.length).map (s.pushed p bytes).at = bytes) ∧
    (s.myCfg.plain (s.core.sp p) = true →
      pull8 p s = .ok (s.at (s.core.sp p)) (s.modCore fun c => c.setSp p (c.sp p + 1#16))) ∧
    (s.myCfg.plain (s.core.sp p) = true → s.myCfg.plain (s.core.sp p + 1#16) = true →
      pull16 p s = .ok (word (s.at (s.core.sp p)) (s.at (s.core.sp p + 1#16)))
        (s.modCore fun c => c.setSp p (c.sp p + 2#16)))

/-! ### Effective addresses and operands -/

/-- The register modes of indexed addressing: the address each computes and the base register each leaves. -/
def Obligations.RegisterModes : Prop :=
  ∀ (s : State) (r : IdxReg) (n5 : BitVec 5) (n8 : Byte) (n16 : Word),
    let base := s.core.get16 (idxReg r)
    let moved (by' : Word) := s.modCore fun c => c.set16 (idxReg r) (base + by')
    ea (.idx (.off5 r n5)) s = .ok (BitVec.ofInt 16 (base.toNat + n5.toInt)) s ∧
    ea (.idx (.inc1 r)) s = .ok base (moved 1#16) ∧
    ea (.idx (.inc2 r false)) s = .ok base (moved 2#16) ∧
    ea (.idx (.dec1 r)) s = .ok (base - 1#16) (moved (-1#16)) ∧
    ea (.idx (.dec2 r false)) s = .ok (base - 2#16) (moved (-2#16)) ∧
    ea (.idx (.zero r false)) s = .ok base s ∧
    ea (.idx (.accB r false)) s = .ok (BitVec.ofInt 16 (base.toNat + s.core.b.toInt)) s ∧
    ea (.idx (.accA r false)) s = .ok (BitVec.ofInt 16 (base.toNat + s.core.a.toInt)) s ∧
    ea (.idx (.off8 r false n8)) s = .ok (BitVec.ofInt 16 (base.toNat + n8.toInt)) s ∧
    ea (.idx (.off16 r false n16)) s = .ok (base + n16) s ∧
    ea (.idx (.accD r false)) s = .ok (base + word s.core.a s.core.b) s

/-- Direct and extended addressing, the PC-relative modes, and indirection: the pointer is computed as the mode computes its
address without indirection, and then the address is read there. -/
def Obligations.OtherModes : Prop :=
  ∀ (s : State) (r : IdxReg) (n8 : Byte) (n16 : Word),
    ea (.dir n8) s = .ok (BitVec.ofNat 16 (s.core.dp.toNat * 256 + n8.toNat)) s ∧
    ea (.ext n16) s = .ok n16 s ∧
    ea (.idx (.pc8 r false n8)) s = .ok (BitVec.ofInt 16 (s.core.pc.toNat + n8.toInt)) s ∧
    ea (.idx (.pc16 r false n16)) s = .ok (s.core.pc + n16) s ∧
    ea (.idx (.extInd n16)) s = memRead16 n16 s ∧
    ∀ mode ∈ [Indexed.inc2 r, Indexed.dec2 r, Indexed.zero r, Indexed.accB r, Indexed.accA r, Indexed.accD r,
        (Indexed.off8 r · n8), (Indexed.off16 r · n16), (Indexed.pc8 r · n8), (Indexed.pc16 r · n16)],
      ∃ a t, ea (.idx (mode false)) s = .ok a t ∧ ea (.idx (mode true)) s = memRead16 a t

/-- An address and an operand are always answered; outside the hardware window they are what stands in memory, and only the
base register of an auto mode changes. -/
def Obligations.OperandReads : Prop :=
  (∀ (s : State) (m : MemOp), ∃ a t, Addresses m s a t) ∧
  (∀ (s : State) (a : Word), ∃ m t, ReadsByte a s m t) ∧
  (∀ (s : State) (src : Src8), ∃ m t, Reads8 src s m t) ∧
  (∀ (s : State) (src : Src16), ∃ m t, Reads16 src s m t)

/-! ### Loads, stores and load effective address -/

/-- `LDA LDB LDD LDX LDY LDU LDS`: the register takes the operand, N and Z are its sign and whether it is zero, V is
cleared; a load of `S` arms the NMI of a core that has one. -/
def Obligations.Loads : Prop :=
  (∀ (r : Acc) (src : Src8) (s : State),
    let key := 0x86 + r.column + src.column
    (Instr.bin8 .ld r src).opcode = key ∧
    ∃ m t, Reads8 src s m t ∧
      exec (Instr.bin8 .ld r src) s = .next ((t.modCore fun c => (c.setAcc r m).setCC
        { c.cc with n := decide (128 ≤ m.toNat), z := decide (m.toNat = 0), v := false }).tick
          (s.cfg.cycles.opcode key + src.addend s.cfg))) ∧
  (∀ (r : Wide) (src : Src16) (s : State),
    let key := (match r with | .d => 0xCC | .x => 0x8E | .y => 0x108E | .u => 0xCE | .s => 0x10CE) + src.column
    (Instr.load16 r src).opcode = key ∧
    ∃ m t, Reads16 src s m t ∧
      exec (Instr.load16 r src) s = .next ((t.modCore fun c =>
        ((c.set16 (wideReg r) m).armIf (decide (r = .s) && s.cfg.hasNmi)).setCC
          { c.cc with n := decide (0x8000 ≤ m.toNat), z := decide (m.toNat = 0), v := false }).tick
          (s.cfg.cycles.opcode key + src.addend s.cfg)))

/-- `STA STB STD STX STY STU STS`: the register is written at the effective address, a word high byte first; N and Z are the
value's, V is cleared; every byte but those stored reads as before. A byte that the bank-select register rejects ends the
step there, before the flags, with no cycle counted. -/
def Obligations.Stores : Prop :=
  (∀ (r : Acc) (m : MemOp) (s : State),
    let key := 0x87 + r.column + m.column
    (Instr.store8 r m).opcode = key ∧
    ∃ a t, Addresses m s a t ∧
      let v := t.core.acc r
      (s.myCfg.rejects a v = false →
        exec (Instr.store8 r m) s = .next (((t.stored a v).modCore fun c => c.setCC
          { c.cc with n := decide (128 ≤ v.toNat), z := decide (v.toNat = 0), v := false }).tick
            (s.cfg.cycles.opcode key + m.addend s.cfg))) ∧
      (s.myCfg.rejects a v = true → exec (Instr.store8 r m) s = .next (t.bankFault a v)) ∧
      ∀ t', exec (Instr.store8 r m) s = .next t' → s.KeepsBut t' [a]) ∧
  (∀ (r : Wide) (m : MemOp) (s : State),
    let key := (match r with | .d => 0xCD | .x => 0x8F | .y => 0x108F | .u => 0xCF | .s => 0x10CF) + m.column
    (Instr.store16 r m).opcode = key ∧
    ∃ a t, Addresses m s a t ∧
      let v := t.core.get16 (wideReg r)
      let u := t.stored a (hiByte v)
      (s.myCfg.rejects a (hiByte v) = false → s.myCfg.rejects (a + 1#16) (loByte v) = false →
        exec (Instr.store16 r m) s = .next (((u.stored (a + 1#16) (loByte v)).modCore fun c => c.setCC
          { c.cc with n := decide (0x8000 ≤ v.toNat), z := decide (v.toNat = 0), v := false }).tick
            (s.cfg.cycles.opcode key + m.addend s.cfg))) ∧
      (s.myCfg.rejects a (hiByte v) = true → exec (Instr.store16 r m) s = .next (t.bankFault a (hiByte v))) ∧
      (s.myCfg.rejects a (hiByte v) = false → s.myCfg.rejects (a + 1#16) (loByte v) = true →
        exec (Instr.store16 r m) s = .next (u.bankFault (a + 1#16) (loByte v))) ∧
      ∀ t', exec (Instr.store16 r m) s = .next t' → s.KeepsBut t' [a, a + 1#16])

/-- `LEAX LEAY LEAS LEAU`: the register takes the effective address; `LEAX` and `LEAY` set Z from it, the others change no
flag; `LEAS` arms the NMI of a core that has one. -/
def Obligations.LoadEffectiveAddress : Prop :=
  ∀ (r : IdxReg) (p : Indexed) (s : State),
    let key := (match r with | .x => 0x30 | .y => 0x31 | .s => 0x32 | .u => 0x33)
    (Instr.lea r p).opcode = key ∧
    ∃ a t, Addresses (.idx p) s a t ∧
      exec (Instr.lea r p) s = .next ((t.modCore fun c =>
        ((c.set16 (idxReg r) a).armIf (decide (r = .s) && s.cfg.hasNmi)).setCC
          { c.cc with z := if r = .x ∨ r = .y then decide (a.toNat = 0) else c.cc.z }).tick
          (s.cfg.cycles.opcode key + s.cfg.cycles.indexed p.postbyte))

/-! ### Arithmetic and logic -/

/-- `ADDA ADDB ADCA ADCB`: the accumulator takes the sum modulo 256; H and C are the carries out of bits 3 and 7, V says that
the signed sum does not fit, N and Z are the result's. -/
def Obligations.Add8 : Prop :=
  ∀ (withCarry : Bool) (r : Acc) (src : Src8) (s : State),
    let i := Instr.bin8 (if withCarry then .adc else .add) r src
    let key := (if withCarry then 0x89 else 0x8B) + r.column + src.column
    i.opcode = key ∧
    ∃ m t, Reads8 src s m t ∧
      exec i s = .next ((t.modCore fun c =>
        let x := c.acc r
        let cin := (withCarry && c.cc.c).toNat
        let sum := x.toNat + m.toNat + cin
        let signed := x.toInt + m.toInt + cin
        (c.setAcc r (BitVec.ofNat 8 sum)).setCC { c.cc with
          h := decide (16 ≤ x.toNat % 16 + m.toNat % 16 + cin)
          n := decide (128 ≤ sum % 256)
          z := decide (sum % 256 = 0)
          v := decide (signed < -128 ∨ 127 < signed)
          c := decide (256 ≤ sum) }).tick (s.cfg.cycles.opcode key + src.addend s.cfg))

/-- `SUBA SUBB SBCA SBCB CMPA CMPB`: the accumulator, but for `CMP`, takes the difference modulo 256; C is the borrow, V says
that the signed difference does not fit, N and Z are the result's, and H is the free value. -/
def Obligations.Sub8 : Prop :=
  ∀ (o : Bin8) (r : Acc) (src : Src8) (s : State), o = .sub ∨ o = .sbc ∨ o = .cmp →
    let key := (match o with | .sub => 0x80 | .sbc => 0x82 | _ => 0x81) + r.column + src.column
    (Instr.bin8 o r src).opcode = key ∧
    ∃ m t, Reads8 src s m t ∧
      exec (Instr.bin8 o r src) s = .next ((t.modCore fun c =>
        let x := c.acc r
        let bin := decide (o = .sbc) && c.cc.c
        let diff : Int := (x.toNat : Int) - m.toNat - bin.toNat
        let signed := x.toInt - m.toInt - bin.toNat
        (if o = .cmp then c else c.setAcc r (BitVec.ofInt 8 diff)).setCC { c.cc with
          h := Config.undefH (match o with | .sub => .sub | .sbc => .sbc | _ => .cmp) x m bin c.cc.h
          n := decide (128 ≤ diff % 256)
          z := decide (diff % 256 = 0)
          v := decide (signed < -128 ∨ 127 < signed)
          c := decide (x.toNat < m.toNat + bin.toNat) }).tick (s.cfg.cycles.opcode key + src.addend s.cfg))

/-- `ANDA ANDB ORA ORB EORA EORB BITA BITB`: the bitwise result goes to the accumulator, but for `BIT`; N and Z are the
result's, V is cleared, C and H stay. -/
def Obligations.Logic8 : Prop :=
  ∀ (o : Bin8) (key : Nat) (f : Byte → Byte → Byte) (r : Acc) (src : Src8) (s : State),
    (o = .and ∧ key = 0x84 ∧ f = (· &&& ·)) ∨ (o = .or ∧ key = 0x8A ∧ f = (· ||| ·)) ∨
      (o = .eor ∧ key = 0x88 ∧ f = (· ^^^ ·)) ∨ (o = .bit ∧ key = 0x85 ∧ f = (· &&& ·)) →
    (Instr.bin8 o r src).opcode = key + r.column + src.column ∧
    ∃ m t, Reads8 src s m t ∧
      exec (Instr.bin8 o r src) s = .next ((t.modCore fun c =>
        let res := f (c.acc r) m
        (if o = .bit then c else c.setAcc r res).setCC { c.cc with
          n := decide (128 ≤ res.toNat), z := decide (res.toNat = 0), v := false }).tick
            (s.cfg.cycles.opcode (key + r.column + src.column) + src.addend s.cfg))

/-- `ADDD SUBD`: D takes the sum or difference modulo 65536; C is the carry or borrow, V says that the signed result does
not fit, N and Z are the result's; H stays. -/
def Obligations.AddSubD : Prop :=
  ∀ (src : Src16) (s : State),
    (Instr.addD src).opcode = 0xC3 + src.column ∧ (Instr.subD src).opcode = 0x83 + src.column ∧
    ∃ m t, Reads16 src s m t ∧
      (exec (Instr.addD src) s = .next ((t.modCore fun c =>
        let sum := c.d.toNat + m.toNat
        let signed := c.d.toInt + m.toInt
        (c.setD (BitVec.ofNat 16 sum)).setCC { c.cc with
          n := decide (0x8000 ≤ sum % 0x10000)
          z := decide (sum % 0x10000 = 0)
          v := decide (signed < -0x8000 ∨ 0x7FFF < signed)
          c := decide (0x10000 ≤ sum) }).tick (s.cfg.cycles.opcode (0xC3 + src.column) + src.addend s.cfg))) ∧
      (exec (Instr.subD src) s = .next ((t.modCore fun c =>
        let diff : Int := (c.d.toNat : Int) - m.toNat
        let signed := c.d.toInt - m.toInt
        (c.setD (BitVec.ofInt 16 diff)).setCC { c.cc with
          n := decide (0x8000 ≤ diff % 0x10000)
          z := decide (diff % 0x10000 = 0)
          v := decide (signed < -0x8000 ∨ 0x7FFF < signed)
          c := decide (c.d.toNat < m.toNat) }).tick (s.cfg.cycles.opcode (0x83 + src.column) + src.addend s.cfg)))

/-- `CMPD CMPX CMPY CMPU CMPS`: the flags of the difference; no register changes but the base register of an auto mode. -/
def Obligations.Compare16 : Prop :=
  ∀ (r : Wide) (src : Src16) (s : State),
    let key := (match r with | .d => 0x1083 | .x => 0x8C | .y => 0x108C | .u => 0x1183 | .s => 0x118C) + src.column
    (Instr.cmp16 r src).opcode = key ∧
    ∃ m t, Reads16 src s m t ∧
      exec (Instr.cmp16 r src) s = .next ((t.modCore fun c =>
        let x := c.get16 (wideReg r)
        let diff : Int := (x.toNat : Int) - m.toNat
        let signed := x.toInt - m.toInt
        c.setCC { c.cc with
          n := decide (0x8000 ≤ diff % 0x10000)
          z := decide (x = m)
          v := decide (signed < -0x8000 ∨ 0x7FFF < signed)
          c := decide (x.toNat < m.toNat) }).tick (s.cfg.cycles.opcode key + src.addend s.cfg))

/-- `NEG COM LSR ROR ASR ASL ROL DEC INC TST CLR` of A and of B: the result, said in numbers, goes to the accumulator and
the flags the rule lists are the result's; nothing else changes. -/
def Obligations.UnaryAccumulator : Prop :=
  ∀ (o : Un8) (r : Acc) (s : State),
    let key := (match r with | .a => 0x40 | .b => 0x50) + o.column
    (Instr.un8Acc o r).opcode = key ∧
    exec (Instr.un8Acc o r) s = .next ((s.modCore fun c =>
      (c.setAcc r (o.effect c.cc (c.acc r)).1).setCC (o.effect c.cc (c.acc r)).2).tick (s.cfg.cycles.opcode key))

/-- `NEG COM LSR ROR ASR ASL ROL DEC INC TST CLR` of a memory byte: the address once, one read, then, but for `TST`, one
write of the result at the same address, then the flags; `NEG` alone writes a flag before its byte, H; every byte but that
one reads as before. A result that the bank-select register rejects ends the step there, with no flag written but that H. -/
def Obligations.UnaryMemory : Prop :=
  ∀ (o : Un8) (m : MemOp) (s : State),
    let key := m.rmwColumn + o.column
    (Instr.un8Mem o m).opcode = key ∧
    ∃ a t v u, Addresses m s a t ∧ ReadsByte a t v u ∧
      let res := o.effect u.core.cc v
      let u₁ := u.modCore fun c =>
        { c with cc := { c.cc with h := if o = .neg then Config.undefH .neg 0x00#8 v false c.cc.h else c.cc.h } }
      let u₂ := if o = .tst then u₁ else u₁.stored a res.1
      (o = .tst ∨ s.myCfg.rejects a res.1 = false →
        exec (Instr.un8Mem o m) s = .next ((u₂.modCore fun c => c.setCC res.2).tick
          (s.cfg.cycles.opcode key + m.addend s.cfg))) ∧
      (o ≠ .tst → s.myCfg.rejects a res.1 = true → exec (Instr.un8Mem o m) s = .next (u₁.bankFault a res.1)) ∧
      ∀ t', exec (Instr.un8Mem o m) s = .next t' → if o = .tst then s.SameMemory t' else s.KeepsBut t' [a]

/-- `MUL DAA SEX ABX`: the product, the decimal correction, the sign extension and the unsigned addition to X, with the
flags each rule lists; V after `DAA` is the free value. -/
def Obligations.MulDaaSexAbx : Prop :=
  ∀ s : State,
    exec .mul s = .next ((s.modCore fun c =>
      let p := c.a.toNat * c.b.toNat
      { c with
        a := BitVec.ofNat 8 (p / 256)
        b := BitVec.ofNat 8 p
        cc := { c.cc with z := decide (p = 0), c := decide (128 ≤ p % 256) } }).tick (s.cfg.cycles.opcode 0x3D)) ∧
    exec .daa s = .next ((s.modCore fun c =>
      let lsn := c.a.toNat % 16
      let msn := c.a.toNat / 16
      let low := if 9 < lsn ∨ c.cc.h = true then 6 else 0
      let high := if 9 < msn ∨ c.cc.c = true ∨ (8 < msn ∧ 9 < lsn) then 0x60 else 0
      let t := c.a.toNat + (low + high)
      { c with
        a := BitVec.ofNat 8 t
        cc := { c.cc with
          n := decide (128 ≤ t % 256)
          z := decide (t % 256 = 0)
          v := Config.undefVDaa c.a c.cc.toByte
          c := c.cc.c || decide (256 ≤ t) } }).tick (s.cfg.cycles.opcode 0x19)) ∧
    exec .sex s = .next ((s.modCore fun c =>
      { c with
        a := if 128 ≤ c.b.toNat then 0xFF#8 else 0x00#8
        cc := { c.cc with n := decide (128 ≤ c.b.toNat), z := decide (c.b.toNat = 0) } }).tick (s.cfg.cycles.opcode 0x1D)) ∧
    exec .abx s = .next ((s.modCore fun c =>
      { c with x := BitVec.ofNat 16 (c.x.toNat + c.b.toNat) }).tick (s.cfg.cycles.opcode 0x3A)) ∧
    encode .mul = [0x3D] ∧ encode .daa = [0x19] ∧ encode .sex = [0x1D] ∧ encode .abx = [0x3A]

/-- `ANDCC ORCC`: the mask is applied to all eight bits of CC. -/
def Obligations.AndOrCC : Prop :=
  ∀ (v : Byte) (s : State),
    exec (.andcc v) s = .next ((s.modCore fun c => { c with cc := CC.ofByte (c.cc.toByte &&& v) }).tick
      (s.cfg.cycles.opcode 0x1C)) ∧
    exec (.orcc v) s = .next ((s.modCore fun c => { c with cc := CC.ofByte (c.cc.toByte ||| v) }).tick
      (s.cfg.cycles.opcode 0x1A)) ∧
    encode (.andcc v) = [0x1C, v] ∧ encode (.orcc v) = [0x1A, v]

/-! ### Transfers and the stacks -/

/-- `TFR EXG` of two 16-bit or two 8-bit registers: both are read before either is written; a write of D writes A and B, of
CC all eight bits, of PC is a jump, and of S arms the NMI of a core that has one. -/
def Obligations.TransferExchange : Prop :=
  ∀ s : State,
    (∀ p q : Reg16,
      exec (.tfr (.r16 p) (.r16 q)) s = .next ((s.modCore fun c =>
        (c.set16 q (c.get16 p)).armIf (decide (q = .s) && s.cfg.hasNmi)).tick (s.cfg.cycles.opcode 0x1F)) ∧
      exec (.exg (.r16 p) (.r16 q)) s = .next ((s.modCore fun c =>
        ((c.set16 q (c.get16 p)).set16 p (c.get16 q)).armIf ((decide (p = .s) || decide (q = .s)) && s.cfg.hasNmi)).tick
          (s.cfg.cycles.opcode 0x1E))) ∧
    (∀ p q : Reg8,
      exec (.tfr (.r8 p) (.r8 q)) s = .next ((s.modCore fun c => c.set8 q (c.get8 p)).tick (s.cfg.cycles.opcode 0x1F)) ∧
      exec (.exg (.r8 p) (.r8 q)) s = .next ((s.modCore fun c => (c.set8 q (c.get8 p)).set8 p (c.get8 q)).tick
        (s.cfg.cycles.opcode 0x1E)))

/-- `PSHS PSHU`: the registers whose mask bits are set are pushed, PC first and CC last, words low byte first; one cycle is
added for each byte. A byte that the bank-select register rejects ends in `BankError`. -/
def Obligations.PushRegisters : Prop :=
  ∀ (p : StackPtr) (m : Byte) (s : State),
    let i : Instr := match p with | .s => .pshs m | .u => .pshu m
    let key := match p with | .s => 0x34 | .u => 0x36
    let bytes := pushList p m s.core
    encode i = [BitVec.ofNat 8 key, m] ∧ bytes.length = stackBytes m ∧
    (s.myCfg.acceptsPush (s.core.sp p) bytes = true →
      exec i s = .next ((s.pushed p bytes).tick (s.cfg.cycles.opcode key + s.cfg.cycles.perByte * bytes.length))) ∧
    (s.myCfg.acceptsPush (s.core.sp p) bytes = false → ∃ t v, exec i s = .next t ∧ t.fatal = some (.bankError s.active v)) ∧
    ∀ t, exec i s = .next t → s.KeepsBut t (pushAddrs (s.core.sp p) bytes.length)

/-- `PULS PULU`: the registers whose mask bits are set are pulled, CC first and PC last; one cycle is added for each byte;
memory is as before. Given for a stack outside the hardware window; anywhere else the pull completes too. -/
def Obligations.PullRegisters : Prop :=
  ∀ (p : StackPtr) (m : Byte) (s : State),
    let i : Instr := match p with | .s => .puls m | .u => .pulu m
    let key := match p with | .s => 0x35 | .u => 0x37
    let n := stackBytes m
    let adr (below : Byte) : Word := s.core.sp p + BitVec.ofNat 16 (stackBytes (m &&& below))
    encode i = [BitVec.ofNat 8 key, m] ∧
    (s.myCfg.plainRange (s.core.sp p) n = true →
      exec i s = .next ((s.modCore fun c =>
        let c' := { c with
          cc := if m.getLsbD 0 then CC.ofByte (s.at (adr 0x00)) else c.cc
          a := if m.getLsbD 1 then s.at (adr 0x01) else c.a
          b := if m.getLsbD 2 then s.at (adr 0x03) else c.b
          dp := if m.getLsbD 3 then s.at (adr 0x07) else c.dp
          x := if m.getLsbD 4 then s.at16 (adr 0x0F) else c.x
          y := if m.getLsbD 5 then s.at16 (adr 0x1F) else c.y
          pc := if m.getLsbD 7 then s.at16 (adr 0x7F) else c.pc }
        let other := if m.getLsbD 6 then s.at16 (adr 0x3F) else c.sp p.other
        match p with
        | .s => { c' with s := c.s + BitVec.ofNat 16 n, u := other }
        | .u => { c' with u := c.u + BitVec.ofNat 16 n, s := other, nmiArmed := c.nmiArmed || (m.getLsbD 6 && s.cfg.hasNmi) }).tick
          (s.cfg.cycles.opcode key + s.cfg.cycles.perByte * n))) ∧
    ∃ t, exec i s = .next t ∧ s.SameMemory t

/-! ### Control flow -/

/-- The sixteen short and the sixteen long branches: PC moves by the offset exactly when the condition of the table holds of
the flags, and nothing else changes; a long conditional branch costs one count more when taken. -/
def Obligations.Branches : Prop :=
  ∀ (k : Cond) (s : State),
    let cc := s.core.cc
    let taken : Bool := match k with
      | .ra => true
      | .rn => false
      | .hi => decide (cc.c = false ∧ cc.z = false)
      | .ls => decide (cc.c = true ∨ cc.z = true)
      | .cc => decide (cc.c = false)
      | .cs => decide (cc.c = true)
      | .ne => decide (cc.z = false)
      | .eq => decide (cc.z = true)
      | .vc => decide (cc.v = false)
      | .vs => decide (cc.v = true)
      | .pl => decide (cc.n = false)
      | .mi => decide (cc.n = true)
      | .ge => decide (cc.n = cc.v)
      | .lt => decide (cc.n ≠ cc.v)
      | .gt => decide (cc.z = false ∧ cc.n = cc.v)
      | .le => decide (cc.z = true ∨ cc.n ≠ cc.v)
    let longKey := if k = .ra then 0x16 else 0x1020 + k.code
    (∀ o : Byte, encode (Instr.branch k o) = [BitVec.ofNat 8 (0x20 + k.code), o] ∧
      exec (Instr.branch k o) s = .next ((s.modCore fun c =>
        { c with pc := if taken then BitVec.ofInt 16 (c.pc.toNat + o.toInt) else c.pc }).tick
          (s.cfg.cycles.opcode (0x20 + k.code)))) ∧
    (∀ o : Word, (Instr.longBranch k o).opcode = longKey ∧
      exec (Instr.longBranch k o) s = .next ((s.modCore fun c => { c with pc := if taken then c.pc + o else c.pc }).tick
        (s.cfg.cycles.opcode longKey + if taken ∧ k ≠ .ra then s.cfg.cycles.longTaken else 0)))

/-- `BSR LBSR JSR`: the address of the next instruction is pushed on S, low byte first, and PC goes to the target, which is
computed before the push; only the two stack bytes change. A byte that the bank-select register rejects ends in `BankError`. -/
def Obligations.Calls : Prop :=
  ∀ s : State,
    (∀ o : Byte,
      (s.myCfg.acceptsPush s.core.s (pushOrder s.core.pc) = true →
        exec (.bsr o) s = .next (((s.pushed .s (pushOrder s.core.pc)).modCore fun c =>
          { c with pc := BitVec.ofInt 16 (s.core.pc.toNat + o.toInt) }).tick (s.cfg.cycles.opcode 0x8D))) ∧
      (s.myCfg.acceptsPush s.core.s (pushOrder s.core.pc) = false →
        ∃ t v, exec (.bsr o) s = .next t ∧ t.fatal = some (.bankError s.active v)) ∧
      ∀ t, exec (.bsr o) s = .next t → s.KeepsBut t (pushAddrs s.core.s 2)) ∧
    (∀ o : Word,
      (s.myCfg.acceptsPush s.core.s (pushOrder s.core.pc) = true →
        exec (.lbsr o) s = .next (((s.pushed .s (pushOrder s.core.pc)).modCore fun c =>
          { c with pc := s.core.pc + o }).tick (s.cfg.cycles.opcode 0x17))) ∧
      (s.myCfg.acceptsPush s.core.s (pushOrder s.core.pc) = false →
        ∃ t v, exec (.lbsr o) s = .next t ∧ t.fatal = some (.bankError s.active v)) ∧
      ∀ t, exec (.lbsr o) s = .next t → s.KeepsBut t (pushAddrs s.core.s 2)) ∧
    (∀ m : MemOp, (Instr.jumpSub m).opcode = 0x8D + m.column ∧
      ∃ a t, Addresses m s a t ∧
        (s.myCfg.acceptsPush t.core.s (pushOrder s.core.pc) = true →
          exec (Instr.jumpSub m) s = .next (((t.pushed .s (pushOrder s.core.pc)).modCore fun c => { c with pc := a }).tick
            (s.cfg.cycles.opcode (0x8D + m.column) + m.addend s.cfg))) ∧
        (s.myCfg.acceptsPush t.core.s (pushOrder s.core.pc) = false →
          ∃ t' v, exec (Instr.jumpSub m) s = .next t' ∧ t'.fatal = some (.bankError s.active v)) ∧
        ∀ t', exec (Instr.jumpSub m) s = .next t' → s.KeepsBut t' (pushAddrs t.core.s 2))

/-- `JMP RTS NOP SYNC`: PC takes the effective address; PC is pulled from S; nothing happens; the core enters the wait
state. Nothing is stored. The wait state of `SYNC` is the spec's own choice (45_system.md R376, its decision D8). -/
def Obligations.JumpReturnNopSync : Prop :=
  ∀ s : State,
    (∀ m : MemOp, (Instr.jump m).opcode = 0x0E + m.rmwColumn ∧
      ∃ a t, Addresses m s a t ∧
        exec (Instr.jump m) s = .next ((t.modCore fun c => { c with pc := a }).tick
          (s.cfg.cycles.opcode (0x0E + m.rmwColumn) + m.addend s.cfg))) ∧
    (∃ hi s₁ lo s₂,
      let moved (t : State) := t.modCore fun c => { c with s := c.s + 1#16 }
      ReadsByte s.core.s s hi s₁ ∧ ReadsByte (s.core.s + 1#16) (moved s₁) lo s₂ ∧
        exec .rts s = .next (((moved s₂).modCore fun c => { c with pc := word hi lo }).tick (s.cfg.cycles.opcode 0x39))) ∧
    exec .nop s = .next (s.tick (s.cfg.cycles.opcode 0x12)) ∧
    exec .sync s = .next ((s.modCore fun c => { c with wait := .sync }).tick (s.cfg.cycles.opcode 0x13)) ∧
    encode .rts = [0x39] ∧ encode .nop = [0x12] ∧ encode .sync = [0x13]

/-! ### Interrupts -/

/-- `SWI SWI2 SWI3`: E is set, the twelve bytes of the state are pushed on S, PC is read from the vector, and `SWI` alone
sets I and F; beside what the pushes themselves write nothing else changes. -/
def Obligations.SoftwareInterrupts : Prop :=
  ∀ (s : State) (i : Instr) (key : Nat) (vector : Word), boardOk s.myCfg = true →
    (i = .swi ∧ key = 0x3F ∧ vector = 0xFFFA) ∨ (i = .swi2 ∧ key = 0x103F ∧ vector = 0xFFF4) ∨
      (i = .swi3 ∧ key = 0x113F ∧ vector = 0xFFF2) →
    i.opcode = key ∧
    let s₁ := s.modCore fun c => { c with cc := { c.cc with e := true } }
    let frame := fullFrame s₁.core
    (s.myCfg.acceptsPush s.core.s frame = true →
      exec i s = .next (((s₁.pushed .s frame).modCore fun c =>
        { c with
          pc := s.at16 vector
          cc := { c.cc with i := c.cc.i || decide (i = .swi), f := c.cc.f || decide (i = .swi) } }).tick
            (s.cfg.cycles.opcode key))) ∧
    (s.myCfg.acceptsPush s.core.s frame = false → ∃ t v, exec i s = .next t ∧ t.fatal = some (.bankError s.active v)) ∧
    ∀ t, exec i s = .next t → s.KeepsBut t (pushAddrs s.core.s 12)

/-- `RTI` with the stack outside the hardware window: CC is pulled, and the E just pulled says whether the full state is
pulled or PC alone; anywhere else it completes too, and memory is as before. -/
def Obligations.ReturnFromInterrupt : Prop :=
  ∀ s : State,
    let sp := s.core.s
    let cc := CC.ofByte (s.at sp)
    encode .rti = [0x3B] ∧
    (s.myCfg.plainRange sp 12 = true → cc.e = true →
      exec .rti s = .next ((s.modCore fun c => { c with
        cc := cc
        a := s.at (sp + 1#16)
        b := s.at (sp + 2#16)
        dp := s.at (sp + 3#16)
        x := s.at16 (sp + 4#16)
        y := s.at16 (sp + 6#16)
        u := s.at16 (sp + 8#16)
        pc := s.at16 (sp + 10#16)
        s := sp + 12#16 }).tick (s.cfg.cycles.opcode 0x3B + s.cfg.cycles.rtiExtra))) ∧
    (s.myCfg.plainRange sp 3 = true → cc.e = false →
      exec .rti s = .next ((s.modCore fun c => { c with
        cc := cc
        pc := s.at16 (sp + 1#16)
        s := sp + 3#16 }).tick (s.cfg.cycles.opcode 0x3B))) ∧
    ∃ t, exec .rti s = .next t ∧ s.SameMemory t

/-- `CWAI`: the mask is applied to CC, E is set, the full state is pushed, and the core waits. The wait state is
the spec's own choice (45_system.md R375, its decision D8). -/
def Obligations.ClearAndWait : Prop :=
  ∀ (s : State) (v : Byte),
    let s₁ := s.modCore fun c => { c with cc := { CC.ofByte (c.cc.toByte &&& v) with e := true } }
    let frame := fullFrame s₁.core
    encode (.cwai v) = [0x3C, v] ∧
    (s.myCfg.acceptsPush s.core.s frame = true →
      exec (.cwai v) s = .next (((s₁.pushed .s frame).modCore fun c => { c with wait := .cwai }).tick
        (s.cfg.cycles.opcode 0x3C))) ∧
    (s.myCfg.acceptsPush s.core.s frame = false → ∃ t w, exec (.cwai v) s = .next t ∧ t.fatal = some (.bankError s.active w)) ∧
    ∀ t, exec (.cwai v) s = .next t → s.KeepsBut t (pushAddrs s.core.s 12)

/-- The interrupt lines of a core: an assertion of IRQ or FIRQ sets its latch and counts when it finds it set, whatever the
mask; `clearIrqMasking` clears I and nothing else; an assertion of the NMI sets its latch on a core that has one and is
refused on a core that has none. Each is a call of the host, made between steps (the queue it stands in is the model's, log
entry 15; the refusal's form is, log entry 16). -/
def Obligations.InterruptLines : Prop :=
  ∀ (s : State) (b : Board),
    s.irq b = s.setCoreOf b { s.coreOf b with
      pendingIRQ := true
      missedIRQ := (s.coreOf b).missedIRQ + (s.coreOf b).pendingIRQ.toNat } ∧
    s.firq b = s.setCoreOf b { s.coreOf b with
      pendingFIRQ := true
      missedFIRQ := (s.coreOf b).missedFIRQ + (s.coreOf b).pendingFIRQ.toNat } ∧
    (s.coreOf b).clearIrqMasking = { s.coreOf b with cc := { (s.coreOf b).cc with i := false } } ∧
    ∀ (focus : Board) (ks : List HostCall), s.fatal = none → s.lock = .idle focus →
      let u := { s with host := ks }
      (s.host = .irq b :: ks → step s = .next (u.irq b)) ∧
      (s.host = .firq b :: ks → step s = .next (u.firq b)) ∧
      (s.host = .clearIrqMasking b :: ks → step s = .next (u.setCoreOf b (s.coreOf b).clearIrqMasking)) ∧
      (s.host = .nmi b :: ks → s.cfg.hasNmi = true →
        step s = .next (u.setCoreOf b { s.coreOf b with pendingNMI := true })) ∧
      (s.host = .nmi b :: ks → s.cfg.hasNmi = false → step s = .refused (.hostCallRefused (.nmi b)))

/-- Interrupt service, of a core that runs or waits in `SYNC`: the NMI first, then an unmasked FIRQ, then an unmasked IRQ.
E says how much is pushed, the latch is cleared, the masks are set, PC is read from the vector, the service is counted; no
instruction is executed. The wait state of `SYNC` is the spec's own choice (60_exceptions.md R421, its decision D8). -/
def Obligations.InterruptService : Prop :=
  ∀ (s : State) (k : Entry) (vector : Word), boardOk s.myCfg = true → s.core.wait ≠ .cwai →
    let c₀ := s.core
    let nmi := s.cfg.hasNmi = true ∧ c₀.pendingNMI = true ∧ c₀.nmiArmed = true
    let firq := c₀.pendingFIRQ = true ∧ c₀.cc.f = false
    let irq := c₀.pendingIRQ = true ∧ c₀.cc.i = false
    (k = .nmi ∧ vector = 0xFFFC ∧ nmi) ∨ (k = .firq ∧ vector = 0xFFF6 ∧ ¬ nmi ∧ firq) ∨
      (k = .irq ∧ vector = 0xFFF8 ∧ ¬ nmi ∧ ¬ firq ∧ irq) →
    let s₁ := s.modCore fun c => { c with wait := .run, cc := { c.cc with e := decide (k ≠ .firq) } }
    let frame := if k = .firq then pushOrder s₁.core.pc ++ [s₁.core.cc.toByte] else fullFrame s₁.core
    s.myCfg.acceptsPush s.core.s frame = true →
      coreStep s = .next (((s₁.pushed .s frame).modCore fun c => { c with
        pc := s.at16 vector
        cc := { c.cc with i := true, f := c.cc.f || decide (k ≠ .irq) }
        pendingIRQ := c.pendingIRQ && decide (k ≠ .irq)
        pendingFIRQ := c.pendingFIRQ && decide (k ≠ .firq)
        pendingNMI := c.pendingNMI && decide (k ≠ .nmi)
        irqCount := c.irqCount + (decide (k = .irq)).toNat
        firqCount := c.firqCount + (decide (k = .firq)).toNat }).tick
          (match k with | .irq => s.cfg.cycles.irq | .firq => s.cfg.cycles.firq | _ => s.cfg.cycles.nmi))

/-- The waiting core. In `SYNC`: idle while no latch is pending; a latch that is pending but masked ends the wait and the
same step executes an instruction. In `CWAI`: idle while no interrupt is due; when one is, nothing is pushed, the latch is
cleared, the masks are set and PC is read from the vector. A running core with no interrupt due executes an instruction.
The wait states and their idle steps are the spec's own choice (60_exceptions.md R421, its decisions D8 and D19). -/
def Obligations.WaitingCore : Prop :=
  ∀ s : State,
    let c₀ := s.core
    let nmi := s.cfg.hasNmi = true ∧ c₀.pendingNMI = true ∧ c₀.nmiArmed = true
    let firq := c₀.pendingFIRQ = true ∧ c₀.cc.f = false
    let irq := c₀.pendingIRQ = true ∧ c₀.cc.i = false
    let pending := c₀.pendingIRQ = true ∨ c₀.pendingFIRQ = true ∨ (s.cfg.hasNmi = true ∧ c₀.pendingNMI = true)
    let awake := s.modCore fun c => { c with wait := .run }
    (c₀.wait = .run → ¬ nmi → ¬ firq → ¬ irq → coreStep s = instrStep s) ∧
    (c₀.wait = .sync → ¬ pending → coreStep s = .next (s.tick s.cfg.cycles.idle)) ∧
    (c₀.wait = .sync → pending → ¬ nmi → ¬ firq → ¬ irq → coreStep s = instrStep awake) ∧
    (c₀.wait = .cwai → ¬ nmi → ¬ firq → ¬ irq → coreStep s = .next (s.tick s.cfg.cycles.idle)) ∧
    (c₀.wait = .cwai → boardOk s.myCfg = true → nmi → coreStep s = .next ((s.modCore fun c => { c with
      wait := .run, pendingNMI := false, cc := { c.cc with f := true, i := true }, pc := s.at16 0xFFFC }).tick
        s.cfg.cycles.resume)) ∧
    (c₀.wait = .cwai → boardOk s.myCfg = true → ¬ nmi → firq → coreStep s = .next ((s.modCore fun c => { c with
      wait := .run, pendingFIRQ := false, cc := { c.cc with f := true, i := true }, pc := s.at16 0xFFF6,
      firqCount := c.firqCount + 1 }).tick s.cfg.cycles.resume)) ∧
    (c₀.wait = .cwai → boardOk s.myCfg = true → ¬ nmi → ¬ firq → irq → coreStep s = .next ((s.modCore fun c => { c with
      wait := .run, pendingIRQ := false, cc := { c.cc with i := true }, pc := s.at16 0xFFF8,
      irqCount := c.irqCount + 1 }).tick s.cfg.cycles.resume))

/-- With the stack in RAM, `RTI` right after an entry that stacks the full state gives back every register and flag of the
interrupted program, E set: after `SWI SWI2 SWI3`; after the service of an IRQ or an NMI; and after `CWAI`, whatever lines are
set by the time it waits and whichever of the three interrupts ends the wait, with the flags `CWAI` left. -/
def Obligations.RtiUndoesEntry : Prop :=
  ∀ s : State, (s.bd s.active).ram.wf = true → (∀ a ∈ pushAddrs s.core.s 12, a.toNat < s.myCfg.ramEnd) →
    (∀ i : Instr, i = .swi ∨ i = .swi2 ∨ i = .swi3 →
      ∃ t u, exec i s = .next t ∧ exec .rti t = .next u ∧ u.core.SameProgram { s.core.cc with e := true } s.core) ∧
    (∀ k : Entry, s.core.wait ≠ .cwai → s.core.due s.cfg.hasNmi = some k → k ≠ .firq →
      ∃ t u, coreStep s = .next t ∧ exec .rti t = .next u ∧ u.core.SameProgram { s.core.cc with e := true } s.core) ∧
    (∀ v : Byte, ∃ t, exec (.cwai v) s = .next t ∧ ∀ (k : Entry) (irq firq nmi armed : Bool),
      let w := t.modCore fun c => { c with pendingIRQ := irq, pendingFIRQ := firq, pendingNMI := nmi, nmiArmed := armed }
      w.core.due w.cfg.hasNmi = some k →
        ∃ t' u, coreStep w = .next t' ∧ exec .rti t' = .next u ∧
          u.core.SameProgram { CC.ofByte (s.core.cc.toByte &&& v) with e := true } s.core)

/-! ### The controller, the cycle lock and reset -/

/-- `advance(t)` does what the rule's loops do: each counter takes the `t` ticks, and while it holds a whole period that
period is taken off and the event happens. -/
def Obligations.ControllerAdvance : Prop :=
  ∀ (s : State) (t fuel : Nat), ticksOk s.cfg = true → s.ctl.zcCounter + t ≤ fuel → s.ctl.irqCounter + t ≤ fuel →
    let wd : Controller :=
      if s.ctl.wdState = .armed then
        if t < s.ctl.wdCounter then { s.ctl with wdCounter := s.ctl.wdCounter - t }
        else { s.ctl with wdCounter := 0, wdState := .expired, wdExpiredCount := s.ctl.wdExpiredCount + 1 }
      else s.ctl
    let s₁ := zeroCrossLoop fuel { s with ctl := { wd with zcCounter := wd.zcCounter + t } }
    s.advance t = periodicLoop fuel { s₁ with ctl := { s₁.ctl with irqCounter := s₁.ctl.irqCounter + t } }

/-- Clock scaling: over any run of sub-steps from a carry of 0 the budgets handed to the sound board sum to the quotient of
the whole, with no rounding drift. -/
def Obligations.SoundBudgetSum : Prop :=
  ∀ (s : State) (ts : List Nat), 1 ≤ s.cfg.soundClkDen → s.soundCarry = 0 →
    (budgets s ts).sum = ts.sum * s.cfg.soundClkNum / s.cfg.soundClkDen

/-- The end of a sub-step: the FM chip is told the cycles the sound core consumed, and every threshold the timer hack's
counter holds asserts the sound FIRQ once. -/
def Obligations.TimerHack : Prop :=
  ∀ (s : State) (ts fuel : Nat), 1 ≤ s.cfg.firqHackTicks → s.firqHackCounter + ts ≤ fuel →
    s.endSound ts = timerHackLoop fuel { s with dev := .fmAdvance ts :: s.dev, firqHackCounter := s.firqHackCounter + ts }

/-- `steps(n)`: the call starts with nothing consumed, and with `n = 0` it ends at once with the result 0; a step of the call
either goes on with fewer than `n` cycles consumed, or ends it with a result of at least `n` and fewer than `n + 20`, or meets
a fatal condition. `step()`: one step of the core, its result the cycles consumed. For the documented cycle table, the default
of `CYCLES` (log entry 18); the call in steps of one core step each and the field that holds the result are the model's (log
entry 24). -/
def Obligations.StepsReturn : Prop :=
  (∀ (s t : State) (b : Board) (n done : Nat), s.cfg.cycles = Config.mc6809Cycles → s.fatal = none →
    s.lock = .steps b n done → done < n → step s = .next t →
      t.fatal ≠ none ∨ (∃ d, t.lock = .steps b n d ∧ d < n) ∨
        (∃ r, t.lock = .idle b ∧ t.ret = some r ∧ n ≤ r ∧ r < n + 20)) ∧
  ∀ (s : State) (b focus : Board) (ks : List HostCall), s.fatal = none → s.lock = .idle focus →
    (∀ n, s.host = .steps b n :: ks →
      step s = .next { s with
        host := ks
        lock := if 0 < n then .steps b n 0 else .idle b
        ret := if 0 < n then s.ret else some 0 }) ∧
    (s.host = .step b :: ks →
      ∃ u d, coreStep { s with host := ks, lock := .idle b } = .next u ∧
        (u.coreOf b).tickCount = (s.coreOf b).tickCount + d ∧ step s = .next { u with ret := some d })

/-- The order inside `executeCycles`, each phase the whole next state: the main core takes whole steps until its slice is
consumed; the board's ticks are counted and the controller advances by the cycles consumed, and the clock scaling gives the
sound budget; the sound core takes whole steps until its budget is consumed, when there is one; the FM chip and the timer hack
follow; and the loop starts over, or ends with the cycles executed as its result. A fatal condition in a core's step ends the
call at once. The call in steps of one agent each, and the field that holds the result, are the model's (log entry 24). -/
def Obligations.SubStepOrder : Prop :=
  ∀ s : State, s.fatal = none →
    (∀ call want ran, s.lock = .mainSlice call want ran →
      ∃ u d, coreStep s = .next u ∧ u.main.core.tickCount = s.main.core.tickCount + d ∧
        step s = .next (if u.fatal = none then
          { u with lock := if ran + d < want then .mainSlice call want (ran + d) else .control call (ran + d) }
        else { u with lock := .idle .main, ret := none })) ∧
    (∀ call n, s.lock = .control call n → ticksOk s.cfg = true →
      let u := (State.advance { s with boardTicks := s.boardTicks + n } n).carrySound n
      let call' : ExecCall := { call with executed := call.executed + n }
      step s = .next (if 0 < s.soundBudget n then { u with lock := .soundSlice call' (s.soundBudget n) 0 }
        else u.atHead call')) ∧
    (∀ call budget ran, s.lock = .soundSlice call budget ran →
      ∃ u d, coreStep s = .next u ∧ u.sound.core.tickCount = s.sound.core.tickCount + d ∧
        step s = .next (if u.fatal = none then
          { u with lock := if ran + d < budget then .soundSlice call budget (ran + d) else .soundEnd call (ran + d) }
        else { u with lock := .idle .sound, ret := none })) ∧
    (∀ call n, s.lock = .soundEnd call n → ticksOk s.cfg = true → step s = .next ((s.endSound n).atHead call))

/-- `executeCycles` accounts for every cycle of the main core: whichever agent steps, its cycle count and the ticks accounted
for grow together, and so do the board's ticks and the ticks executed; so at the end both counters have grown by the result,
which is at least the ticks asked for. For the documented cycle table, the default of `CYCLES` (log entry 18), it is fewer than
20 more. `ticksPerStep < 1` is refused. The call in steps of one agent each is the model's (log entry 24). -/
def Obligations.ExecuteCyclesAccounts : Prop :=
  (∀ (s t : State) (call : ExecCall), s.fatal = none → t.fatal = none → s.lock.call = some call → step s = .next t →
    (∀ call', t.lock.call = some call' →
      call'.total = call.total ∧ s.main.core.tickCount + t.lock.ticks = t.main.core.tickCount + s.lock.ticks ∧
        s.boardTicks + call'.executed = t.boardTicks + call.executed) ∧
    (t.lock.call = none → ∃ r, t.lock = .idle .main ∧ t.ret = some r ∧ call.total ≤ r ∧
      s.main.core.tickCount + r = t.main.core.tickCount + s.lock.ticks ∧ s.boardTicks + r = t.boardTicks + call.executed ∧
      (s.cfg.cycles = Config.mc6809Cycles → s.lock.bounded → r < call.total + 20))) ∧
  (∀ s t : State, s.cfg.cycles = Config.mc6809Cycles → s.fatal = none → s.lock.bounded → step s = .next t → t.lock.bounded) ∧
  ∀ (s : State) (focus : Board) (total perStep : Nat) (ks : List HostCall), s.fatal = none → s.lock = .idle focus →
    s.host = .executeCycles total perStep :: ks →
      (1 ≤ perStep → step s = .next (State.atHead { s with host := ks } ⟨total, perStep, 0⟩)) ∧
      (perStep = 0 → step s = .refused (.hostCallRefused (.executeCycles total perStep)))

/-- Reset of a board: the core at its power-on values with PC from the reset vector in fixed ROM, bank 0; with the main
board the controller, with the sound board the latch and the timer hack; RAM and the register shadow keep their contents. That
a reset of either board clears the fatal condition and the diagnostic record is the model's reading (log entry 28), and that
the history of the devices goes on is its choice (log entry 30). -/
def Obligations.ResetBoard : Prop :=
  ∀ s : State, boardOk s.cfg.main = true → boardOk s.cfg.sound = true →
    let r := s.cfg.resetRegs
    let fresh (c : BoardCfg) : Core :=
      { a := r.a, b := r.b, x := r.x, y := r.y, u := r.u, s := r.s, dp := r.dp, cc := CC.ofByte r.cc
        pc := word (c.fixedRom.read (0xFFFE - c.bankEnd)) (c.fixedRom.read (0xFFFF - c.bankEnd))
        pendingIRQ := false, pendingFIRQ := false, pendingNMI := false, nmiArmed := false
        missedIRQ := 0, missedFIRQ := 0, irqCount := 0, firqCount := 0, tickCount := 0, wait := .run }
    s.resetBoard .main = { s with
      main := { s.main with core := fresh s.cfg.main, bank := 0 }
      ctl := { wdState := .idle, wdCounter := s.cfg.watchdogReload, zcCounter := 0, zcFlag := false, irqCounter := 0
               periodicIrqEnable := true, zcToggleCount := 0, wdExpiredCount := 0 }
      boardTicks := 0, soundCarry := 0, fatal := none, diag := [] } ∧
    s.resetBoard .sound = { s with
      sound := { s.sound with core := fresh s.cfg.sound, bank := 0 }
      latchByte := 0x00#8, latchAvail := false, firqHackCounter := 0, soundCarry := 0, fatal := none, diag := [] } ∧
    s.resetAll = (s.resetBoard .main).resetBoard .sound

/-- A halted machine has no step: it stops with the fault that says so, whatever the cores, the controller and the call in
progress would do next, until the host's next call is a reset, which clears the condition. The fault that stands for `no
step` and the host's queue are the model's (log entries 15 and 17), and that a reset of one board clears the condition,
whichever board it is and whichever raised it, is the model's reading (log entry 28). -/
def Obligations.HaltedMachine : Prop :=
  ∀ s : State, s.fatal ≠ none →
    ((∀ ks, s.host ≠ .reset :: ks) → (∀ b ks, s.host ≠ .resetBoard b :: ks) → step s = .fault .halted) ∧
    (∀ ks, s.host = .reset :: ks → ∃ t, step s = .next t ∧ t.fatal = none ∧ t.host = ks) ∧
    (∀ b ks, s.host = .resetBoard b :: ks → ∃ t, step s = .next t ∧ t.fatal = none ∧ t.host = ks)

/-! ### What every step keeps -/

/-- After a compare of an accumulator the branch conditions order the operands: unsigned and signed. -/
def Obligations.CompareOrders : Prop :=
  ∀ (r : Acc) (m : Byte) (s t : State), exec (Instr.bin8 .cmp r (.imm m)) s = .next t →
    let x := s.core.acc r
    let cc := t.core.cc
    (Cond.hi.holds cc = true ↔ m.toNat < x.toNat) ∧ (Cond.ls.holds cc = true ↔ x.toNat ≤ m.toNat) ∧
    (Cond.cc.holds cc = true ↔ m.toNat ≤ x.toNat) ∧ (Cond.cs.holds cc = true ↔ x.toNat < m.toNat) ∧
    (Cond.ne.holds cc = true ↔ x ≠ m) ∧ (Cond.eq.holds cc = true ↔ x = m) ∧
    (Cond.ge.holds cc = true ↔ m.toInt ≤ x.toInt) ∧ (Cond.lt.holds cc = true ↔ x.toInt < m.toInt) ∧
    (Cond.gt.holds cc = true ↔ m.toInt < x.toInt) ∧ (Cond.le.holds cc = true ↔ x.toInt ≤ m.toInt)

/-- An instruction that stores nothing leaves every byte of both boards' memory as it was. -/
def Obligations.NoStoreKeepsMemory : Prop :=
  ∀ (i : Instr) (s t : State), i.stores = false → exec i s = .next t → s.SameMemory t

/-- One core's step changes nothing of the other board but that board's interrupt latches and their missed counts. -/
def Obligations.OtherBoardUntouched : Prop :=
  ∀ (s t : State) (b : Board), b ≠ s.active → coreStep s = .next t → (s.bd b).Asserted (t.bd b)

/-- One core's step does not depend on the other board's RAM, register shadow or bank: with others there, it does the same. -/
def Obligations.OtherMemoryUnseen : Prop :=
  ∀ (s : State) (b : Board) (ram shadow : Memory) (bank : Nat), b ≠ s.active →
    coreStep (s.withMemoryOf b ram shadow bank) = mapNext (·.withMemoryOf b ram shadow bank) (coreStep s)

/-- The state after reset, with the default configuration of log entry 3, meets the invariant. -/
def Obligations.ResetMeetsInv : Prop := State.reset.Inv

/-- Every step of the machine keeps the invariant, whatever the agent or the host call: canonical memories, banks in the ROM,
counters in their ranges. -/
def Obligations.StepKeepsInv : Prop :=
  ∀ s t : State, s.Inv → step s = .next t → t.Inv
end

