-- ==== Sys2Proof/Laws/Bits.lean ====
section
/-! SUPPORT. A word and its two bytes; the condition codes and their byte. -/

namespace Sys2Proof

/-- The numeric reading of R22 and R61: the high byte counts 256. -/
theorem word_toNat (hi lo : Byte) : (word hi lo).toNat = hi.toNat * 256 + lo.toNat := by
  have h := lo.isLt
  unfold word
  simp only [BitVec.toNat_append]
  rw [Nat.shiftLeft_eq, Nat.mul_comm, ← Nat.two_pow_add_eq_or_of_lt h, Nat.mul_comm]

theorem hiByte_toNat (w : Word) : (hiByte w).toNat = w.toNat / 256 := by
  have h := w.isLt
  simp only [hiByte, BitVec.extractLsb'_toNat, Nat.shiftRight_eq_div_pow]
  omega

theorem loByte_toNat (w : Word) : (loByte w).toNat = w.toNat % 256 := by
  simp only [loByte, BitVec.extractLsb'_toNat, Nat.shiftRight_eq_div_pow]
  omega

@[simp] theorem hiByte_word (hi lo : Byte) : hiByte (word hi lo) = hi := by
  have h := lo.isLt
  apply BitVec.eq_of_toNat_eq
  rw [hiByte_toNat, word_toNat]
  omega

@[simp] theorem loByte_word (hi lo : Byte) : loByte (word hi lo) = lo := by
  have h := lo.isLt
  apply BitVec.eq_of_toNat_eq
  rw [loByte_toNat, word_toNat]
  omega

@[simp] theorem word_hiByte_loByte (w : Word) : word (hiByte w) (loByte w) = w := by
  apply BitVec.eq_of_toNat_eq
  rw [word_toNat, hiByte_toNat, loByte_toNat]
  omega

namespace Machine

@[simp] theorem CC.ofByte_toByte (cc : CC) : CC.ofByte cc.toByte = cc := by
  rcases cc with ⟨e, f, h, i, n, z, v, c⟩
  cases e <;> cases f <;> cases h <;> cases i <;> cases n <;> cases z <;> cases v <;> cases c <;> rfl

@[simp] theorem CC.toByte_ofByte (v : Byte) : (CC.ofByte v).toByte = v := by
  revert v
  decide

end Machine

end Sys2Proof
end

