-- ==== Sys2Proof/Laws/Memory.lean ====
section
/-! SUPPORT. A byte store: what a read answers after a write, and the canonical form that every write keeps. -/

namespace Sys2Proof

/-- Every listed address is above `n`. -/
def Memory.above (m : Memory) (n : Nat) : Prop := m.all (fun c => decide (n < c.1)) = true

theorem Memory.wf_cons {k : Nat} {v : Byte} {m : Memory} :
    Memory.wf ((k, v) :: m) = true ↔ v ≠ Memory.unlisted ∧ m.above k ∧ m.wf = true := by
  simp [Memory.wf, Memory.above, and_assoc]

theorem Memory.above_cons {k n : Nat} {v : Byte} {m : Memory} :
    Memory.above ((k, v) :: m) n ↔ n < k ∧ m.above n := by
  simp [Memory.above]

theorem Memory.above_mono {m : Memory} {n k : Nat} (h : m.above n) (hk : k ≤ n) : m.above k := by
  simp only [Memory.above, List.all_eq_true, decide_eq_true_eq] at *
  intro c hc
  have := h c hc
  omega

/-- An address at or below a bound of the listed ones is unlisted. -/
theorem Memory.read_of_above {m : Memory} {n a : Nat} (h : m.above n) (ha : a ≤ n) : m.read a = Memory.unlisted := by
  induction m with
  | nil => rfl
  | cons c m ih =>
    obtain ⟨k, v⟩ := c
    rw [Memory.above_cons] at h
    simp only [Memory.read]
    rw [if_neg (by omega), ih h.2]

theorem Memory.above_write {m : Memory} {n a : Nat} {v : Byte} (h : m.above n) (ha : n < a) :
    (m.write a v).above n := by
  induction m with
  | nil => simp only [Memory.write]; split <;> simp_all [Memory.above]
  | cons c m ih =>
    obtain ⟨k, w⟩ := c
    rw [Memory.above_cons] at h
    simp only [Memory.write]
    split
    · split
      · rw [Memory.above_cons]; exact h
      · rw [Memory.above_cons, Memory.above_cons]; exact ⟨ha, h⟩
    · split
      · split
        · exact h.2
        · rw [Memory.above_cons]; exact ⟨ha, h.2⟩
      · rw [Memory.above_cons]; exact ⟨h.1, ih h.2⟩

/-- A write keeps the canonical form. -/
theorem Memory.wf_write {m : Memory} (h : m.wf = true) (a : Nat) (v : Byte) : (m.write a v).wf = true := by
  induction m with
  | nil => simp only [Memory.write]; split <;> simp_all [Memory.wf]
  | cons c m ih =>
    obtain ⟨k, w⟩ := c
    have hc := Memory.wf_cons.mp h
    simp only [Memory.write]
    split
    · rename_i hak
      split
      · exact h
      · rename_i hv
        exact Memory.wf_cons.mpr ⟨hv, Memory.above_cons.mpr ⟨hak, Memory.above_mono hc.2.1 (by omega)⟩, h⟩
    · split
      · rename_i hak
        subst hak
        split
        · exact hc.2.2
        · rename_i hv
          exact Memory.wf_cons.mpr ⟨hv, hc.2.1, hc.2.2⟩
      · exact Memory.wf_cons.mpr ⟨hc.1, Memory.above_write hc.2.1 (by omega), ih hc.2.2⟩

/-- A write below a bound keeps every listed address below it. -/
theorem Memory.below_write {m : Memory} {n : Nat} (h : m.below n = true) {a : Nat} (ha : a < n) (v : Byte) :
    (m.write a v).below n = true := by
  induction m with
  | nil => simp only [Memory.write]; split <;> simp_all [Memory.below]
  | cons c m ih =>
    obtain ⟨k, w⟩ := c
    simp only [Memory.below, List.all_cons, Bool.and_eq_true, decide_eq_true_eq] at *
    simp only [Memory.write]
    split
    · split
      · simpa using h
      · simpa [ha] using h
    · split
      · split
        · exact h.2
        · simpa [ha] using h.2
      · simp only [List.all_cons, Bool.and_eq_true, decide_eq_true_eq]
        exact ⟨h.1, ih h.2⟩

/-- A read after a write of the same address gives the byte written (20_memory.md R77). -/
theorem Memory.read_write_same {m : Memory} (h : m.wf = true) (a : Nat) (v : Byte) : (m.write a v).read a = v := by
  induction m with
  | nil => simp only [Memory.write]; split <;> simp_all [Memory.read]
  | cons c m ih =>
    obtain ⟨k, w⟩ := c
    have hc := Memory.wf_cons.mp h
    simp only [Memory.write]
    split
    · rename_i hak
      split
      · rename_i hv
        simp only [Memory.read]
        rw [if_neg (by omega), Memory.read_of_above hc.2.1 (by omega), hv]
      · simp [Memory.read]
    · split
      · rename_i hak
        subst hak
        split
        · rename_i hv
          rw [Memory.read_of_above hc.2.1 (Nat.le_refl _), hv]
        · simp [Memory.read]
      · rename_i h1 h2
        simp only [Memory.read]
        rw [if_neg (by omega), ih hc.2.2]

/-- A write leaves every other address as it is, whatever the form. -/
theorem Memory.read_write_other (m : Memory) {a b : Nat} (h : b ≠ a) (v : Byte) : (m.write a v).read b = m.read b := by
  induction m with
  | nil =>
    simp only [Memory.write]
    split
    · rfl
    · simp only [Memory.read]
      rw [if_neg (by omega)]
  | cons c m ih =>
    obtain ⟨k, w⟩ := c
    simp only [Memory.write]
    split
    · split
      · rfl
      · conv => lhs; unfold Memory.read
        rw [if_neg (by omega)]
    · split
      · rename_i hak
        subst hak
        split
        · conv => rhs; unfold Memory.read
          rw [if_neg (by omega)]
        · simp only [Memory.read]
          rw [if_neg (by omega), if_neg (by omega)]
      · simp only [Memory.read, ih]

/-- Two canonical stores with the same contents are the same data. -/
theorem Memory.ext_of_wf {m n : Memory} (hm : m.wf = true) (hn : n.wf = true) (h : ∀ a, m.read a = n.read a) : m = n := by
  induction m generalizing n with
  | nil =>
    cases n with
    | nil => rfl
    | cons c n =>
      obtain ⟨k, v⟩ := c
      have hc := Memory.wf_cons.mp hn
      have := h k
      simp only [Memory.read, if_pos] at this
      exact absurd this.symm hc.1
  | cons c m ih =>
    obtain ⟨k, v⟩ := c
    have hc := Memory.wf_cons.mp hm
    cases n with
    | nil =>
      have := h k
      simp only [Memory.read, if_pos] at this
      exact absurd this hc.1
    | cons d n =>
      obtain ⟨j, w⟩ := d
      have hd := Memory.wf_cons.mp hn
      have hkj : k = j := by
        rcases Nat.lt_trichotomy k j with hlt | heq | hgt
        · have := h k
          simp only [Memory.read, if_pos] at this
          rw [if_neg (by omega), Memory.read_of_above hd.2.1 (by omega)] at this
          exact absurd this hc.1
        · exact heq
        · have := h j
          simp only [Memory.read, if_pos] at this
          rw [if_neg (by omega), Memory.read_of_above hc.2.1 (by omega)] at this
          exact absurd this.symm hd.1
      subst hkj
      have hvw : v = w := by simpa [Memory.read] using h k
      subst hvw
      rw [ih hc.2.2 hd.2.2]
      intro a
      have ha := h a
      simp only [Memory.read] at ha
      by_cases hk : k = a
      · subst hk
        rw [Memory.read_of_above hc.2.1 (Nat.le_refl _), Memory.read_of_above hd.2.1 (Nat.le_refl _)]
      · simpa [hk] using ha

/-- Writing what stands at an address changes nothing. -/
theorem Memory.write_read_self {m : Memory} (h : m.wf = true) (a : Nat) : m.write a (m.read a) = m := by
  refine Memory.ext_of_wf (Memory.wf_write h a _) h fun b => ?_
  by_cases hb : b = a
  · subst hb; exact Memory.read_write_same h b _
  · exact Memory.read_write_other m hb _

/-- Building an image keeps the canonical form. -/
theorem Memory.wf_writeList {m : Memory} (h : m.wf = true) (a : Nat) (vs : List Byte) : (m.writeList a vs).wf = true := by
  induction vs generalizing m a with
  | nil => exact h
  | cons v vs ih => exact ih (Memory.wf_write h a v) (a + 1)

/-- Building an image inside an array stays inside it. -/
theorem Memory.below_writeList {m : Memory} {n : Nat} (h : m.below n = true) {a : Nat} {vs : List Byte}
    (ha : a + vs.length ≤ n) : (m.writeList a vs).below n = true := by
  induction vs generalizing m a with
  | nil => exact h
  | cons v vs ih =>
    rw [List.length_cons] at ha
    exact ih (Memory.below_write h (by omega) v) (by omega)

/-! ### Arrays -/

@[simp] theorem Image.write_len (m : Image) (a : Nat) (v : Byte) : (m.write a v).len = m.len := rfl

@[simp] theorem Image.blank_len (n : Nat) : (Image.blank n).len = n := rfl

@[simp] theorem Image.blank_read (n a : Nat) : (Image.blank n).read a = Memory.unlisted := rfl

@[simp] theorem Image.ofBytes_len (bytes : List Byte) : (Image.ofBytes bytes).len = bytes.length := rfl

/-- A byte replaced inside an array leaves an array in order. -/
theorem Image.ok_write {m : Image} (h : m.ok = true) {a : Nat} (ha : a < m.len) (v : Byte) : (m.write a v).ok = true := by
  have h' := Bool.and_eq_true_iff.mp h
  exact Bool.and_eq_true_iff.mpr ⟨Memory.wf_write h'.1 a v, Memory.below_write h'.2 ha v⟩

/-- What the host hands over is an array in order. -/
theorem Image.ok_ofBytes (bytes : List Byte) : (Image.ofBytes bytes).ok = true :=
  Bool.and_eq_true_iff.mpr ⟨Memory.wf_writeList rfl 0 bytes, Memory.below_writeList rfl (show 0 + bytes.length ≤ bytes.length by omega)⟩

end Sys2Proof
end

