-- ==== Sys2Proof/Laws/State.lean ====
section
/-! SUPPORT. What each update of the state leaves of each field: no later proof unfolds a record update. -/

namespace Sys2Proof.Machine

/-! ### A board replaced -/

@[simp] theorem State.setBd_cfg (s : State) (b : Board) (v : BoardState) : (s.setBd b v).cfg = s.cfg :=
  by cases b <;> rfl
@[simp] theorem State.setBd_ctl (s : State) (b : Board) (v : BoardState) : (s.setBd b v).ctl = s.ctl :=
  by cases b <;> rfl
@[simp] theorem State.setBd_latchByte (s : State) (b : Board) (v : BoardState) : (s.setBd b v).latchByte = s.latchByte :=
  by cases b <;> rfl
@[simp] theorem State.setBd_latchAvail (s : State) (b : Board) (v : BoardState) : (s.setBd b v).latchAvail = s.latchAvail :=
  by cases b <;> rfl
@[simp] theorem State.setBd_soundCarry (s : State) (b : Board) (v : BoardState) : (s.setBd b v).soundCarry = s.soundCarry :=
  by cases b <;> rfl
@[simp] theorem State.setBd_firqHackCounter (s : State) (b : Board) (v : BoardState) : (s.setBd b v).firqHackCounter = s.firqHackCounter :=
  by cases b <;> rfl
@[simp] theorem State.setBd_boardTicks (s : State) (b : Board) (v : BoardState) : (s.setBd b v).boardTicks = s.boardTicks :=
  by cases b <;> rfl
@[simp] theorem State.setBd_fatal (s : State) (b : Board) (v : BoardState) : (s.setBd b v).fatal = s.fatal :=
  by cases b <;> rfl
@[simp] theorem State.setBd_diag (s : State) (b : Board) (v : BoardState) : (s.setBd b v).diag = s.diag :=
  by cases b <;> rfl
@[simp] theorem State.setBd_lock (s : State) (b : Board) (v : BoardState) : (s.setBd b v).lock = s.lock :=
  by cases b <;> rfl
@[simp] theorem State.setBd_host (s : State) (b : Board) (v : BoardState) : (s.setBd b v).host = s.host :=
  by cases b <;> rfl
@[simp] theorem State.setBd_ret (s : State) (b : Board) (v : BoardState) : (s.setBd b v).ret = s.ret :=
  by cases b <;> rfl
@[simp] theorem State.setBd_dev (s : State) (b : Board) (v : BoardState) : (s.setBd b v).dev = s.dev :=
  by cases b <;> rfl
@[simp] theorem State.setBd_active (s : State) (b : Board) (v : BoardState) : (s.setBd b v).active = s.active :=
  by cases b <;> rfl
@[simp] theorem State.setBd_bd (s : State) (b : Board) (v : BoardState) : (s.setBd b v).bd b = v :=
  by cases b <;> rfl
theorem State.setBd_bd_other (s : State) {b b' : Board} (v : BoardState) (h : b' ≠ b) : (s.setBd b v).bd b' = s.bd b' := by
  cases b <;> cases b' <;> first | rfl | exact absurd rfl h
@[simp] theorem State.setBd_setBd (s : State) (b : Board) (v w : BoardState) : (s.setBd b v).setBd b w = s.setBd b w := by
  cases b <;> rfl
@[simp] theorem State.setBd_self (s : State) (b : Board) : s.setBd b (s.bd b) = s := by cases b <;> rfl

/-! ### A core replaced -/

@[simp] theorem State.setCoreOf_cfg (s : State) (b : Board) (c : Core) : (s.setCoreOf b c).cfg = s.cfg :=
  by cases b <;> rfl
@[simp] theorem State.setCoreOf_ctl (s : State) (b : Board) (c : Core) : (s.setCoreOf b c).ctl = s.ctl :=
  by cases b <;> rfl
@[simp] theorem State.setCoreOf_latchByte (s : State) (b : Board) (c : Core) : (s.setCoreOf b c).latchByte = s.latchByte :=
  by cases b <;> rfl
@[simp] theorem State.setCoreOf_latchAvail (s : State) (b : Board) (c : Core) : (s.setCoreOf b c).latchAvail = s.latchAvail :=
  by cases b <;> rfl
@[simp] theorem State.setCoreOf_soundCarry (s : State) (b : Board) (c : Core) : (s.setCoreOf b c).soundCarry = s.soundCarry :=
  by cases b <;> rfl
@[simp] theorem State.setCoreOf_firqHackCounter (s : State) (b : Board) (c : Core) : (s.setCoreOf b c).firqHackCounter = s.firqHackCounter :=
  by cases b <;> rfl
@[simp] theorem State.setCoreOf_boardTicks (s : State) (b : Board) (c : Core) : (s.setCoreOf b c).boardTicks = s.boardTicks :=
  by cases b <;> rfl
@[simp] theorem State.setCoreOf_fatal (s : State) (b : Board) (c : Core) : (s.setCoreOf b c).fatal = s.fatal :=
  by cases b <;> rfl
@[simp] theorem State.setCoreOf_diag (s : State) (b : Board) (c : Core) : (s.setCoreOf b c).diag = s.diag :=
  by cases b <;> rfl
@[simp] theorem State.setCoreOf_lock (s : State) (b : Board) (c : Core) : (s.setCoreOf b c).lock = s.lock :=
  by cases b <;> rfl
@[simp] theorem State.setCoreOf_host (s : State) (b : Board) (c : Core) : (s.setCoreOf b c).host = s.host :=
  by cases b <;> rfl
@[simp] theorem State.setCoreOf_ret (s : State) (b : Board) (c : Core) : (s.setCoreOf b c).ret = s.ret :=
  by cases b <;> rfl
@[simp] theorem State.setCoreOf_dev (s : State) (b : Board) (c : Core) : (s.setCoreOf b c).dev = s.dev :=
  by cases b <;> rfl
@[simp] theorem State.setCoreOf_active (s : State) (b : Board) (c : Core) : (s.setCoreOf b c).active = s.active :=
  by cases b <;> rfl
@[simp] theorem State.setCoreOf_coreOf (s : State) (b : Board) (c : Core) : (s.setCoreOf b c).coreOf b = c :=
  by cases b <;> rfl
theorem State.setCoreOf_coreOf_other (s : State) {b b' : Board} (c : Core) (h : b' ≠ b) : (s.setCoreOf b c).coreOf b' = s.coreOf b' := by
  cases b <;> cases b' <;> first | rfl | exact absurd rfl h
@[simp] theorem State.setCoreOf_bd_ram (s : State) (b b' : Board) (c : Core) : ((s.setCoreOf b c).bd b').ram = (s.bd b').ram := by
  cases b <;> cases b' <;> rfl
@[simp] theorem State.setCoreOf_bd_hwShadow (s : State) (b b' : Board) (c : Core) : ((s.setCoreOf b c).bd b').hwShadow = (s.bd b').hwShadow := by
  cases b <;> cases b' <;> rfl
@[simp] theorem State.setCoreOf_bd_bank (s : State) (b b' : Board) (c : Core) : ((s.setCoreOf b c).bd b').bank = (s.bd b').bank := by
  cases b <;> cases b' <;> rfl
@[simp] theorem State.setCoreOf_setCoreOf (s : State) (b : Board) (c d : Core) : (s.setCoreOf b c).setCoreOf b d = s.setCoreOf b d := by
  cases b <;> rfl
@[simp] theorem State.setCoreOf_self (s : State) (b : Board) : s.setCoreOf b (s.coreOf b) = s :=
  by cases b <;> rfl

/-! ### The stepping core changed -/

@[simp] theorem State.modCore_cfg (s : State) (g : Core → Core) : (s.modCore g).cfg = s.cfg :=
  by simp [State.modCore, State.setCore]
@[simp] theorem State.modCore_ctl (s : State) (g : Core → Core) : (s.modCore g).ctl = s.ctl :=
  by simp [State.modCore, State.setCore]
@[simp] theorem State.modCore_latchByte (s : State) (g : Core → Core) : (s.modCore g).latchByte = s.latchByte :=
  by simp [State.modCore, State.setCore]
@[simp] theorem State.modCore_latchAvail (s : State) (g : Core → Core) : (s.modCore g).latchAvail = s.latchAvail :=
  by simp [State.modCore, State.setCore]
@[simp] theorem State.modCore_soundCarry (s : State) (g : Core → Core) : (s.modCore g).soundCarry = s.soundCarry :=
  by simp [State.modCore, State.setCore]
@[simp] theorem State.modCore_firqHackCounter (s : State) (g : Core → Core) : (s.modCore g).firqHackCounter = s.firqHackCounter :=
  by simp [State.modCore, State.setCore]
@[simp] theorem State.modCore_boardTicks (s : State) (g : Core → Core) : (s.modCore g).boardTicks = s.boardTicks :=
  by simp [State.modCore, State.setCore]
@[simp] theorem State.modCore_fatal (s : State) (g : Core → Core) : (s.modCore g).fatal = s.fatal :=
  by simp [State.modCore, State.setCore]
@[simp] theorem State.modCore_diag (s : State) (g : Core → Core) : (s.modCore g).diag = s.diag :=
  by simp [State.modCore, State.setCore]
@[simp] theorem State.modCore_lock (s : State) (g : Core → Core) : (s.modCore g).lock = s.lock :=
  by simp [State.modCore, State.setCore]
@[simp] theorem State.modCore_host (s : State) (g : Core → Core) : (s.modCore g).host = s.host :=
  by simp [State.modCore, State.setCore]
@[simp] theorem State.modCore_ret (s : State) (g : Core → Core) : (s.modCore g).ret = s.ret :=
  by simp [State.modCore, State.setCore]
@[simp] theorem State.modCore_dev (s : State) (g : Core → Core) : (s.modCore g).dev = s.dev :=
  by simp [State.modCore, State.setCore]
@[simp] theorem State.modCore_active (s : State) (g : Core → Core) : (s.modCore g).active = s.active :=
  by simp [State.modCore, State.setCore]
@[simp] theorem State.modCore_core (s : State) (g : Core → Core) : (s.modCore g).core = g s.core := by
 simp [State.modCore, State.setCore, State.core]
@[simp] theorem State.modCore_coreOf (s : State) (g : Core → Core) : (s.modCore g).coreOf s.active = g s.core := by
  simp [State.modCore, State.setCore]
theorem State.modCore_coreOf_other (s : State) (g : Core → Core) {b : Board} (h : b ≠ s.active) :
    (s.modCore g).coreOf b = s.coreOf b := by
  simp [State.modCore, State.setCore, State.setCoreOf_coreOf_other _ _ h]
@[simp] theorem State.modCore_bd_ram (s : State) (g : Core → Core) (b : Board) : ((s.modCore g).bd b).ram = (s.bd b).ram := by
  simp [State.modCore, State.setCore]
@[simp] theorem State.modCore_bd_hwShadow (s : State) (g : Core → Core) (b : Board) : ((s.modCore g).bd b).hwShadow = (s.bd b).hwShadow := by
  simp [State.modCore, State.setCore]
@[simp] theorem State.modCore_bd_bank (s : State) (g : Core → Core) (b : Board) : ((s.modCore g).bd b).bank = (s.bd b).bank := by
  simp [State.modCore, State.setCore]
@[simp] theorem State.modCore_modCore (s : State) (g k : Core → Core) : (s.modCore g).modCore k = s.modCore fun c => k (g c) := by
  simp [State.modCore, State.setCore, State.core]
@[simp] theorem State.modCore_id (s : State) : (s.modCore fun c => c) = s := by
  simp [State.modCore, State.setCore, State.core]

/-! ### Cycles counted -/

@[simp] theorem State.tick_cfg (s : State) (n : Nat) : (s.tick n).cfg = s.cfg := by simp [State.tick]
@[simp] theorem State.tick_ctl (s : State) (n : Nat) : (s.tick n).ctl = s.ctl := by simp [State.tick]
@[simp] theorem State.tick_latchByte (s : State) (n : Nat) : (s.tick n).latchByte = s.latchByte :=
  by simp [State.tick]
@[simp] theorem State.tick_latchAvail (s : State) (n : Nat) : (s.tick n).latchAvail = s.latchAvail :=
  by simp [State.tick]
@[simp] theorem State.tick_soundCarry (s : State) (n : Nat) : (s.tick n).soundCarry = s.soundCarry :=
  by simp [State.tick]
@[simp] theorem State.tick_firqHackCounter (s : State) (n : Nat) : (s.tick n).firqHackCounter = s.firqHackCounter :=
  by simp [State.tick]
@[simp] theorem State.tick_boardTicks (s : State) (n : Nat) : (s.tick n).boardTicks = s.boardTicks :=
  by simp [State.tick]
@[simp] theorem State.tick_fatal (s : State) (n : Nat) : (s.tick n).fatal = s.fatal := by simp [State.tick]
@[simp] theorem State.tick_diag (s : State) (n : Nat) : (s.tick n).diag = s.diag := by simp [State.tick]
@[simp] theorem State.tick_lock (s : State) (n : Nat) : (s.tick n).lock = s.lock := by simp [State.tick]
@[simp] theorem State.tick_host (s : State) (n : Nat) : (s.tick n).host = s.host := by simp [State.tick]
@[simp] theorem State.tick_ret (s : State) (n : Nat) : (s.tick n).ret = s.ret := by simp [State.tick]
@[simp] theorem State.tick_dev (s : State) (n : Nat) : (s.tick n).dev = s.dev := by simp [State.tick]
@[simp] theorem State.tick_active (s : State) (n : Nat) : (s.tick n).active = s.active := by simp [State.tick]
@[simp] theorem State.tick_core (s : State) (n : Nat) : (s.tick n).core = { s.core with tickCount := s.core.tickCount + n } := by
  simp [State.tick]
@[simp] theorem State.tick_bd_ram (s : State) (n : Nat) (b : Board) : ((s.tick n).bd b).ram = (s.bd b).ram := by
  simp [State.tick]
@[simp] theorem State.tick_bd_hwShadow (s : State) (n : Nat) (b : Board) : ((s.tick n).bd b).hwShadow = (s.bd b).hwShadow := by
  simp [State.tick]
@[simp] theorem State.tick_bd_bank (s : State) (n : Nat) (b : Board) : ((s.tick n).bd b).bank = (s.bd b).bank := by
  simp [State.tick]

/-! ### Memories and banks replaced -/

@[simp] theorem State.setRam_cfg (s : State) (b : Board) (off : Nat) (v : Byte) : (s.setRam b off v).cfg = s.cfg :=
  by simp [State.setRam]
@[simp] theorem State.setRam_ctl (s : State) (b : Board) (off : Nat) (v : Byte) : (s.setRam b off v).ctl = s.ctl :=
  by simp [State.setRam]
@[simp] theorem State.setRam_latchByte (s : State) (b : Board) (off : Nat) (v : Byte) : (s.setRam b off v).latchByte = s.latchByte :=
  by simp [State.setRam]
@[simp] theorem State.setRam_latchAvail (s : State) (b : Board) (off : Nat) (v : Byte) : (s.setRam b off v).latchAvail = s.latchAvail :=
  by simp [State.setRam]
@[simp] theorem State.setRam_soundCarry (s : State) (b : Board) (off : Nat) (v : Byte) : (s.setRam b off v).soundCarry = s.soundCarry :=
  by simp [State.setRam]
@[simp] theorem State.setRam_firqHackCounter (s : State) (b : Board) (off : Nat) (v : Byte) : (s.setRam b off v).firqHackCounter = s.firqHackCounter :=
  by simp [State.setRam]
@[simp] theorem State.setRam_boardTicks (s : State) (b : Board) (off : Nat) (v : Byte) : (s.setRam b off v).boardTicks = s.boardTicks :=
  by simp [State.setRam]
@[simp] theorem State.setRam_fatal (s : State) (b : Board) (off : Nat) (v : Byte) : (s.setRam b off v).fatal = s.fatal :=
  by simp [State.setRam]
@[simp] theorem State.setRam_diag (s : State) (b : Board) (off : Nat) (v : Byte) : (s.setRam b off v).diag = s.diag :=
  by simp [State.setRam]
@[simp] theorem State.setRam_lock (s : State) (b : Board) (off : Nat) (v : Byte) : (s.setRam b off v).lock = s.lock :=
  by simp [State.setRam]
@[simp] theorem State.setRam_host (s : State) (b : Board) (off : Nat) (v : Byte) : (s.setRam b off v).host = s.host :=
  by simp [State.setRam]
@[simp] theorem State.setRam_ret (s : State) (b : Board) (off : Nat) (v : Byte) : (s.setRam b off v).ret = s.ret :=
  by simp [State.setRam]
@[simp] theorem State.setRam_dev (s : State) (b : Board) (off : Nat) (v : Byte) : (s.setRam b off v).dev = s.dev :=
  by simp [State.setRam]
@[simp] theorem State.setRam_active (s : State) (b : Board) (off : Nat) (v : Byte) : (s.setRam b off v).active = s.active :=
  by simp [State.setRam]
@[simp] theorem State.setRam_coreOf (s : State) (b : Board) (off : Nat) (v : Byte) (b' : Board) : (s.setRam b off v).coreOf b' = s.coreOf b' := by
  cases b <;> cases b' <;> rfl
@[simp] theorem State.setRam_core (s : State) (b : Board) (off : Nat) (v : Byte) : (s.setRam b off v).core = s.core := by
  simp [State.core]
@[simp] theorem State.setRam_bd_ram (s : State) (b : Board) (off : Nat) (v : Byte) : ((s.setRam b off v).bd b).ram = (s.bd b).ram.write off v :=
  by cases b <;> rfl
theorem State.setRam_bd_ram_other (s : State) (b : Board) (off : Nat) (v : Byte) {b' : Board} (h : b' ≠ b) : ((s.setRam b off v).bd b').ram = (s.bd b').ram := by
  cases b <;> cases b' <;> first | rfl | exact absurd rfl h
@[simp] theorem State.setRam_bd_hwShadow (s : State) (b : Board) (off : Nat) (v : Byte) (b' : Board) : ((s.setRam b off v).bd b').hwShadow = (s.bd b').hwShadow := by
  cases b <;> cases b' <;> rfl
@[simp] theorem State.setRam_bd_bank (s : State) (b : Board) (off : Nat) (v : Byte) (b' : Board) : ((s.setRam b off v).bd b').bank = (s.bd b').bank := by
  cases b <;> cases b' <;> rfl
@[simp] theorem State.setShadow_cfg (s : State) (b : Board) (off : Nat) (v : Byte) : (s.setShadow b off v).cfg = s.cfg :=
  by simp [State.setShadow]
@[simp] theorem State.setShadow_ctl (s : State) (b : Board) (off : Nat) (v : Byte) : (s.setShadow b off v).ctl = s.ctl :=
  by simp [State.setShadow]
@[simp] theorem State.setShadow_latchByte (s : State) (b : Board) (off : Nat) (v : Byte) : (s.setShadow b off v).latchByte = s.latchByte :=
  by simp [State.setShadow]
@[simp] theorem State.setShadow_latchAvail (s : State) (b : Board) (off : Nat) (v : Byte) : (s.setShadow b off v).latchAvail = s.latchAvail :=
  by simp [State.setShadow]
@[simp] theorem State.setShadow_soundCarry (s : State) (b : Board) (off : Nat) (v : Byte) : (s.setShadow b off v).soundCarry = s.soundCarry :=
  by simp [State.setShadow]
@[simp] theorem State.setShadow_firqHackCounter (s : State) (b : Board) (off : Nat) (v : Byte) : (s.setShadow b off v).firqHackCounter = s.firqHackCounter :=
  by simp [State.setShadow]
@[simp] theorem State.setShadow_boardTicks (s : State) (b : Board) (off : Nat) (v : Byte) : (s.setShadow b off v).boardTicks = s.boardTicks :=
  by simp [State.setShadow]
@[simp] theorem State.setShadow_fatal (s : State) (b : Board) (off : Nat) (v : Byte) : (s.setShadow b off v).fatal = s.fatal :=
  by simp [State.setShadow]
@[simp] theorem State.setShadow_diag (s : State) (b : Board) (off : Nat) (v : Byte) : (s.setShadow b off v).diag = s.diag :=
  by simp [State.setShadow]
@[simp] theorem State.setShadow_lock (s : State) (b : Board) (off : Nat) (v : Byte) : (s.setShadow b off v).lock = s.lock :=
  by simp [State.setShadow]
@[simp] theorem State.setShadow_host (s : State) (b : Board) (off : Nat) (v : Byte) : (s.setShadow b off v).host = s.host :=
  by simp [State.setShadow]
@[simp] theorem State.setShadow_ret (s : State) (b : Board) (off : Nat) (v : Byte) : (s.setShadow b off v).ret = s.ret :=
  by simp [State.setShadow]
@[simp] theorem State.setShadow_dev (s : State) (b : Board) (off : Nat) (v : Byte) : (s.setShadow b off v).dev = s.dev :=
  by simp [State.setShadow]
@[simp] theorem State.setShadow_active (s : State) (b : Board) (off : Nat) (v : Byte) : (s.setShadow b off v).active = s.active :=
  by simp [State.setShadow]
@[simp] theorem State.setShadow_coreOf (s : State) (b : Board) (off : Nat) (v : Byte) (b' : Board) : (s.setShadow b off v).coreOf b' = s.coreOf b' := by
  cases b <;> cases b' <;> rfl
@[simp] theorem State.setShadow_core (s : State) (b : Board) (off : Nat) (v : Byte) : (s.setShadow b off v).core = s.core := by
  simp [State.core]
@[simp] theorem State.setShadow_bd_ram (s : State) (b : Board) (off : Nat) (v : Byte) (b' : Board) : ((s.setShadow b off v).bd b').ram = (s.bd b').ram := by
  cases b <;> cases b' <;> rfl
@[simp] theorem State.setShadow_bd_hwShadow (s : State) (b : Board) (off : Nat) (v : Byte) : ((s.setShadow b off v).bd b).hwShadow = (s.bd b).hwShadow.write off v :=
  by cases b <;> rfl
theorem State.setShadow_bd_hwShadow_other (s : State) (b : Board) (off : Nat) (v : Byte) {b' : Board} (h : b' ≠ b) : ((s.setShadow b off v).bd b').hwShadow = (s.bd b').hwShadow := by
  cases b <;> cases b' <;> first | rfl | exact absurd rfl h
@[simp] theorem State.setShadow_bd_bank (s : State) (b : Board) (off : Nat) (v : Byte) (b' : Board) : ((s.setShadow b off v).bd b').bank = (s.bd b').bank := by
  cases b <;> cases b' <;> rfl
@[simp] theorem State.setBank_cfg (s : State) (b : Board) (i : Nat) : (s.setBank b i).cfg = s.cfg :=
  by simp [State.setBank]
@[simp] theorem State.setBank_ctl (s : State) (b : Board) (i : Nat) : (s.setBank b i).ctl = s.ctl :=
  by simp [State.setBank]
@[simp] theorem State.setBank_latchByte (s : State) (b : Board) (i : Nat) : (s.setBank b i).latchByte = s.latchByte :=
  by simp [State.setBank]
@[simp] theorem State.setBank_latchAvail (s : State) (b : Board) (i : Nat) : (s.setBank b i).latchAvail = s.latchAvail :=
  by simp [State.setBank]
@[simp] theorem State.setBank_soundCarry (s : State) (b : Board) (i : Nat) : (s.setBank b i).soundCarry = s.soundCarry :=
  by simp [State.setBank]
@[simp] theorem State.setBank_firqHackCounter (s : State) (b : Board) (i : Nat) : (s.setBank b i).firqHackCounter = s.firqHackCounter :=
  by simp [State.setBank]
@[simp] theorem State.setBank_boardTicks (s : State) (b : Board) (i : Nat) : (s.setBank b i).boardTicks = s.boardTicks :=
  by simp [State.setBank]
@[simp] theorem State.setBank_fatal (s : State) (b : Board) (i : Nat) : (s.setBank b i).fatal = s.fatal :=
  by simp [State.setBank]
@[simp] theorem State.setBank_diag (s : State) (b : Board) (i : Nat) : (s.setBank b i).diag = s.diag :=
  by simp [State.setBank]
@[simp] theorem State.setBank_lock (s : State) (b : Board) (i : Nat) : (s.setBank b i).lock = s.lock :=
  by simp [State.setBank]
@[simp] theorem State.setBank_host (s : State) (b : Board) (i : Nat) : (s.setBank b i).host = s.host :=
  by simp [State.setBank]
@[simp] theorem State.setBank_ret (s : State) (b : Board) (i : Nat) : (s.setBank b i).ret = s.ret :=
  by simp [State.setBank]
@[simp] theorem State.setBank_dev (s : State) (b : Board) (i : Nat) : (s.setBank b i).dev = s.dev :=
  by simp [State.setBank]
@[simp] theorem State.setBank_active (s : State) (b : Board) (i : Nat) : (s.setBank b i).active = s.active :=
  by simp [State.setBank]
@[simp] theorem State.setBank_coreOf (s : State) (b : Board) (i : Nat) (b' : Board) : (s.setBank b i).coreOf b' = s.coreOf b' := by
  cases b <;> cases b' <;> rfl
@[simp] theorem State.setBank_core (s : State) (b : Board) (i : Nat) : (s.setBank b i).core = s.core := by
  simp [State.core]
@[simp] theorem State.setBank_bd_ram (s : State) (b : Board) (i : Nat) (b' : Board) : ((s.setBank b i).bd b').ram = (s.bd b').ram := by
  cases b <;> cases b' <;> rfl
@[simp] theorem State.setBank_bd_hwShadow (s : State) (b : Board) (i : Nat) (b' : Board) : ((s.setBank b i).bd b').hwShadow = (s.bd b').hwShadow := by
  cases b <;> cases b' <;> rfl
@[simp] theorem State.setBank_bd_bank (s : State) (b : Board) (i : Nat) : ((s.setBank b i).bd b).bank = i :=
  by cases b <;> rfl
theorem State.setBank_bd_bank_other (s : State) (b : Board) (i : Nat) {b' : Board} (h : b' ≠ b) : ((s.setBank b i).bd b').bank = (s.bd b').bank := by
  cases b <;> cases b' <;> first | rfl | exact absurd rfl h

/-! ### The records -/

@[simp] theorem State.record_cfg (s : State) (e : DevEvent) : (s.record e).cfg = s.cfg := rfl
@[simp] theorem State.record_ctl (s : State) (e : DevEvent) : (s.record e).ctl = s.ctl := rfl
@[simp] theorem State.record_latchByte (s : State) (e : DevEvent) : (s.record e).latchByte = s.latchByte :=
  rfl
@[simp] theorem State.record_latchAvail (s : State) (e : DevEvent) : (s.record e).latchAvail = s.latchAvail :=
  rfl
@[simp] theorem State.record_soundCarry (s : State) (e : DevEvent) : (s.record e).soundCarry = s.soundCarry :=
  rfl
@[simp] theorem State.record_firqHackCounter (s : State) (e : DevEvent) : (s.record e).firqHackCounter = s.firqHackCounter :=
  rfl
@[simp] theorem State.record_boardTicks (s : State) (e : DevEvent) : (s.record e).boardTicks = s.boardTicks :=
  rfl
@[simp] theorem State.record_fatal (s : State) (e : DevEvent) : (s.record e).fatal = s.fatal := rfl
@[simp] theorem State.record_diag (s : State) (e : DevEvent) : (s.record e).diag = s.diag := rfl
@[simp] theorem State.record_lock (s : State) (e : DevEvent) : (s.record e).lock = s.lock := rfl
@[simp] theorem State.record_host (s : State) (e : DevEvent) : (s.record e).host = s.host := rfl
@[simp] theorem State.record_ret (s : State) (e : DevEvent) : (s.record e).ret = s.ret := rfl
@[simp] theorem State.record_active (s : State) (e : DevEvent) : (s.record e).active = s.active := rfl
@[simp] theorem State.record_core (s : State) (e : DevEvent) : (s.record e).core = s.core := rfl
@[simp] theorem State.record_main (s : State) (e : DevEvent) : (s.record e).main = s.main := rfl
@[simp] theorem State.record_sound (s : State) (e : DevEvent) : (s.record e).sound = s.sound := rfl
@[simp] theorem State.record_bd (s : State) (e : DevEvent) (b' : Board) : (s.record e).bd b' = s.bd b' :=
  by cases b' <;> rfl
@[simp] theorem State.record_coreOf (s : State) (e : DevEvent) (b' : Board) : (s.record e).coreOf b' = s.coreOf b' :=
  by cases b' <;> rfl
@[simp] theorem State.report_cfg (s : State) (b : Board) (off : Nat) (k : AccessKind) : (s.report b off k).cfg = s.cfg :=
  rfl
@[simp] theorem State.report_ctl (s : State) (b : Board) (off : Nat) (k : AccessKind) : (s.report b off k).ctl = s.ctl :=
  rfl
@[simp] theorem State.report_latchByte (s : State) (b : Board) (off : Nat) (k : AccessKind) : (s.report b off k).latchByte = s.latchByte :=
  rfl
@[simp] theorem State.report_latchAvail (s : State) (b : Board) (off : Nat) (k : AccessKind) : (s.report b off k).latchAvail = s.latchAvail :=
  rfl
@[simp] theorem State.report_soundCarry (s : State) (b : Board) (off : Nat) (k : AccessKind) : (s.report b off k).soundCarry = s.soundCarry :=
  rfl
@[simp] theorem State.report_firqHackCounter (s : State) (b : Board) (off : Nat) (k : AccessKind) : (s.report b off k).firqHackCounter = s.firqHackCounter :=
  rfl
@[simp] theorem State.report_boardTicks (s : State) (b : Board) (off : Nat) (k : AccessKind) : (s.report b off k).boardTicks = s.boardTicks :=
  rfl
@[simp] theorem State.report_fatal (s : State) (b : Board) (off : Nat) (k : AccessKind) : (s.report b off k).fatal = s.fatal :=
  rfl
@[simp] theorem State.report_lock (s : State) (b : Board) (off : Nat) (k : AccessKind) : (s.report b off k).lock = s.lock :=
  rfl
@[simp] theorem State.report_host (s : State) (b : Board) (off : Nat) (k : AccessKind) : (s.report b off k).host = s.host :=
  rfl
@[simp] theorem State.report_ret (s : State) (b : Board) (off : Nat) (k : AccessKind) : (s.report b off k).ret = s.ret :=
  rfl
@[simp] theorem State.report_dev (s : State) (b : Board) (off : Nat) (k : AccessKind) : (s.report b off k).dev = s.dev :=
  rfl
@[simp] theorem State.report_active (s : State) (b : Board) (off : Nat) (k : AccessKind) : (s.report b off k).active = s.active :=
  rfl
@[simp] theorem State.report_core (s : State) (b : Board) (off : Nat) (k : AccessKind) : (s.report b off k).core = s.core :=
  rfl
@[simp] theorem State.report_main (s : State) (b : Board) (off : Nat) (k : AccessKind) : (s.report b off k).main = s.main :=
  rfl
@[simp] theorem State.report_sound (s : State) (b : Board) (off : Nat) (k : AccessKind) : (s.report b off k).sound = s.sound :=
  rfl
@[simp] theorem State.report_bd (s : State) (b : Board) (off : Nat) (k : AccessKind) (b' : Board) : (s.report b off k).bd b' = s.bd b' :=
  by cases b' <;> rfl
@[simp] theorem State.report_coreOf (s : State) (b : Board) (off : Nat) (k : AccessKind) (b' : Board) : (s.report b off k).coreOf b' = s.coreOf b' :=
  by cases b' <;> rfl
@[simp] theorem State.record_dev (s : State) (e : DevEvent) : (s.record e).dev = e :: s.dev := rfl
@[simp] theorem State.report_diag (s : State) (b : Board) (off : Nat) (k : AccessKind) : (s.report b off k).diag = s.diag ++ [⟨b, off, k⟩] :=
  rfl

/-! ### Registers -/

@[simp] theorem Core.setAcc_x (c : Core) (r : Acc) (v : Byte) : (c.setAcc r v).x = c.x := by cases r <;> rfl
@[simp] theorem Core.setAcc_y (c : Core) (r : Acc) (v : Byte) : (c.setAcc r v).y = c.y := by cases r <;> rfl
@[simp] theorem Core.setAcc_u (c : Core) (r : Acc) (v : Byte) : (c.setAcc r v).u = c.u := by cases r <;> rfl
@[simp] theorem Core.setAcc_s (c : Core) (r : Acc) (v : Byte) : (c.setAcc r v).s = c.s := by cases r <;> rfl
@[simp] theorem Core.setAcc_pc (c : Core) (r : Acc) (v : Byte) : (c.setAcc r v).pc = c.pc :=
  by cases r <;> rfl
@[simp] theorem Core.setAcc_dp (c : Core) (r : Acc) (v : Byte) : (c.setAcc r v).dp = c.dp :=
  by cases r <;> rfl
@[simp] theorem Core.setAcc_cc (c : Core) (r : Acc) (v : Byte) : (c.setAcc r v).cc = c.cc :=
  by cases r <;> rfl
@[simp] theorem Core.setAcc_pendingIRQ (c : Core) (r : Acc) (v : Byte) : (c.setAcc r v).pendingIRQ = c.pendingIRQ :=
  by cases r <;> rfl
@[simp] theorem Core.setAcc_pendingFIRQ (c : Core) (r : Acc) (v : Byte) : (c.setAcc r v).pendingFIRQ = c.pendingFIRQ :=
  by cases r <;> rfl
@[simp] theorem Core.setAcc_pendingNMI (c : Core) (r : Acc) (v : Byte) : (c.setAcc r v).pendingNMI = c.pendingNMI :=
  by cases r <;> rfl
@[simp] theorem Core.setAcc_nmiArmed (c : Core) (r : Acc) (v : Byte) : (c.setAcc r v).nmiArmed = c.nmiArmed :=
  by cases r <;> rfl
@[simp] theorem Core.setAcc_missedIRQ (c : Core) (r : Acc) (v : Byte) : (c.setAcc r v).missedIRQ = c.missedIRQ :=
  by cases r <;> rfl
@[simp] theorem Core.setAcc_missedFIRQ (c : Core) (r : Acc) (v : Byte) : (c.setAcc r v).missedFIRQ = c.missedFIRQ :=
  by cases r <;> rfl
@[simp] theorem Core.setAcc_irqCount (c : Core) (r : Acc) (v : Byte) : (c.setAcc r v).irqCount = c.irqCount :=
  by cases r <;> rfl
@[simp] theorem Core.setAcc_firqCount (c : Core) (r : Acc) (v : Byte) : (c.setAcc r v).firqCount = c.firqCount :=
  by cases r <;> rfl
@[simp] theorem Core.setAcc_tickCount (c : Core) (r : Acc) (v : Byte) : (c.setAcc r v).tickCount = c.tickCount :=
  by cases r <;> rfl
@[simp] theorem Core.setAcc_wait (c : Core) (r : Acc) (v : Byte) : (c.setAcc r v).wait = c.wait :=
  by cases r <;> rfl
@[simp] theorem Core.setAcc_acc (c : Core) (r : Acc) (v : Byte) : (c.setAcc r v).acc r = v :=
  by cases r <;> rfl
@[simp] theorem Core.setCC_a (c : Core) (cc : CC) : (c.setCC cc).a = c.a := rfl
@[simp] theorem Core.setCC_b (c : Core) (cc : CC) : (c.setCC cc).b = c.b := rfl
@[simp] theorem Core.setCC_x (c : Core) (cc : CC) : (c.setCC cc).x = c.x := rfl
@[simp] theorem Core.setCC_y (c : Core) (cc : CC) : (c.setCC cc).y = c.y := rfl
@[simp] theorem Core.setCC_u (c : Core) (cc : CC) : (c.setCC cc).u = c.u := rfl
@[simp] theorem Core.setCC_s (c : Core) (cc : CC) : (c.setCC cc).s = c.s := rfl
@[simp] theorem Core.setCC_pc (c : Core) (cc : CC) : (c.setCC cc).pc = c.pc := rfl
@[simp] theorem Core.setCC_dp (c : Core) (cc : CC) : (c.setCC cc).dp = c.dp := rfl
@[simp] theorem Core.setCC_pendingIRQ (c : Core) (cc : CC) : (c.setCC cc).pendingIRQ = c.pendingIRQ := rfl
@[simp] theorem Core.setCC_pendingFIRQ (c : Core) (cc : CC) : (c.setCC cc).pendingFIRQ = c.pendingFIRQ := rfl
@[simp] theorem Core.setCC_pendingNMI (c : Core) (cc : CC) : (c.setCC cc).pendingNMI = c.pendingNMI := rfl
@[simp] theorem Core.setCC_nmiArmed (c : Core) (cc : CC) : (c.setCC cc).nmiArmed = c.nmiArmed := rfl
@[simp] theorem Core.setCC_missedIRQ (c : Core) (cc : CC) : (c.setCC cc).missedIRQ = c.missedIRQ := rfl
@[simp] theorem Core.setCC_missedFIRQ (c : Core) (cc : CC) : (c.setCC cc).missedFIRQ = c.missedFIRQ := rfl
@[simp] theorem Core.setCC_irqCount (c : Core) (cc : CC) : (c.setCC cc).irqCount = c.irqCount := rfl
@[simp] theorem Core.setCC_firqCount (c : Core) (cc : CC) : (c.setCC cc).firqCount = c.firqCount := rfl
@[simp] theorem Core.setCC_tickCount (c : Core) (cc : CC) : (c.setCC cc).tickCount = c.tickCount := rfl
@[simp] theorem Core.setCC_wait (c : Core) (cc : CC) : (c.setCC cc).wait = c.wait := rfl
@[simp] theorem Core.setCC_cc (c : Core) (cc : CC) : (c.setCC cc).cc = cc := rfl
@[simp] theorem Core.setCC_acc (c : Core) (cc : CC) (r : Acc) : (c.setCC cc).acc r = c.acc r :=
  by cases r <;> rfl
@[simp] theorem Core.setSp_a (c : Core) (p : StackPtr) (v : Word) : (c.setSp p v).a = c.a :=
  by cases p <;> rfl
@[simp] theorem Core.setSp_b (c : Core) (p : StackPtr) (v : Word) : (c.setSp p v).b = c.b :=
  by cases p <;> rfl
@[simp] theorem Core.setSp_x (c : Core) (p : StackPtr) (v : Word) : (c.setSp p v).x = c.x :=
  by cases p <;> rfl
@[simp] theorem Core.setSp_y (c : Core) (p : StackPtr) (v : Word) : (c.setSp p v).y = c.y :=
  by cases p <;> rfl
@[simp] theorem Core.setSp_pc (c : Core) (p : StackPtr) (v : Word) : (c.setSp p v).pc = c.pc :=
  by cases p <;> rfl
@[simp] theorem Core.setSp_dp (c : Core) (p : StackPtr) (v : Word) : (c.setSp p v).dp = c.dp :=
  by cases p <;> rfl
@[simp] theorem Core.setSp_cc (c : Core) (p : StackPtr) (v : Word) : (c.setSp p v).cc = c.cc :=
  by cases p <;> rfl
@[simp] theorem Core.setSp_pendingIRQ (c : Core) (p : StackPtr) (v : Word) : (c.setSp p v).pendingIRQ = c.pendingIRQ :=
  by cases p <;> rfl
@[simp] theorem Core.setSp_pendingFIRQ (c : Core) (p : StackPtr) (v : Word) : (c.setSp p v).pendingFIRQ = c.pendingFIRQ :=
  by cases p <;> rfl
@[simp] theorem Core.setSp_pendingNMI (c : Core) (p : StackPtr) (v : Word) : (c.setSp p v).pendingNMI = c.pendingNMI :=
  by cases p <;> rfl
@[simp] theorem Core.setSp_nmiArmed (c : Core) (p : StackPtr) (v : Word) : (c.setSp p v).nmiArmed = c.nmiArmed :=
  by cases p <;> rfl
@[simp] theorem Core.setSp_missedIRQ (c : Core) (p : StackPtr) (v : Word) : (c.setSp p v).missedIRQ = c.missedIRQ :=
  by cases p <;> rfl
@[simp] theorem Core.setSp_missedFIRQ (c : Core) (p : StackPtr) (v : Word) : (c.setSp p v).missedFIRQ = c.missedFIRQ :=
  by cases p <;> rfl
@[simp] theorem Core.setSp_irqCount (c : Core) (p : StackPtr) (v : Word) : (c.setSp p v).irqCount = c.irqCount :=
  by cases p <;> rfl
@[simp] theorem Core.setSp_firqCount (c : Core) (p : StackPtr) (v : Word) : (c.setSp p v).firqCount = c.firqCount :=
  by cases p <;> rfl
@[simp] theorem Core.setSp_tickCount (c : Core) (p : StackPtr) (v : Word) : (c.setSp p v).tickCount = c.tickCount :=
  by cases p <;> rfl
@[simp] theorem Core.setSp_wait (c : Core) (p : StackPtr) (v : Word) : (c.setSp p v).wait = c.wait :=
  by cases p <;> rfl
@[simp] theorem Core.setSp_sp (c : Core) (p : StackPtr) (v : Word) : (c.setSp p v).sp p = v :=
  by cases p <;> rfl
@[simp] theorem Core.setSp_setSp (c : Core) (p : StackPtr) (v w : Word) : (c.setSp p v).setSp p w = c.setSp p w :=
  by cases p <;> rfl
@[simp] theorem Core.setSp_self (c : Core) (p : StackPtr) : c.setSp p (c.sp p) = c := by cases p <;> rfl
@[simp] theorem Core.setD_x (c : Core) (v : Word) : (c.setD v).x = c.x := rfl
@[simp] theorem Core.setD_y (c : Core) (v : Word) : (c.setD v).y = c.y := rfl
@[simp] theorem Core.setD_u (c : Core) (v : Word) : (c.setD v).u = c.u := rfl
@[simp] theorem Core.setD_s (c : Core) (v : Word) : (c.setD v).s = c.s := rfl
@[simp] theorem Core.setD_pc (c : Core) (v : Word) : (c.setD v).pc = c.pc := rfl
@[simp] theorem Core.setD_dp (c : Core) (v : Word) : (c.setD v).dp = c.dp := rfl
@[simp] theorem Core.setD_cc (c : Core) (v : Word) : (c.setD v).cc = c.cc := rfl
@[simp] theorem Core.setD_pendingIRQ (c : Core) (v : Word) : (c.setD v).pendingIRQ = c.pendingIRQ := rfl
@[simp] theorem Core.setD_pendingFIRQ (c : Core) (v : Word) : (c.setD v).pendingFIRQ = c.pendingFIRQ := rfl
@[simp] theorem Core.setD_pendingNMI (c : Core) (v : Word) : (c.setD v).pendingNMI = c.pendingNMI := rfl
@[simp] theorem Core.setD_nmiArmed (c : Core) (v : Word) : (c.setD v).nmiArmed = c.nmiArmed := rfl
@[simp] theorem Core.setD_missedIRQ (c : Core) (v : Word) : (c.setD v).missedIRQ = c.missedIRQ := rfl
@[simp] theorem Core.setD_missedFIRQ (c : Core) (v : Word) : (c.setD v).missedFIRQ = c.missedFIRQ := rfl
@[simp] theorem Core.setD_irqCount (c : Core) (v : Word) : (c.setD v).irqCount = c.irqCount := rfl
@[simp] theorem Core.setD_firqCount (c : Core) (v : Word) : (c.setD v).firqCount = c.firqCount := rfl
@[simp] theorem Core.setD_tickCount (c : Core) (v : Word) : (c.setD v).tickCount = c.tickCount := rfl
@[simp] theorem Core.setD_wait (c : Core) (v : Word) : (c.setD v).wait = c.wait := rfl
@[simp] theorem Core.set16_dp (c : Core) (r : Reg16) (v : Word) : (c.set16 r v).dp = c.dp :=
  by cases r <;> rfl
@[simp] theorem Core.set16_cc (c : Core) (r : Reg16) (v : Word) : (c.set16 r v).cc = c.cc :=
  by cases r <;> rfl
@[simp] theorem Core.set16_pendingIRQ (c : Core) (r : Reg16) (v : Word) : (c.set16 r v).pendingIRQ = c.pendingIRQ :=
  by cases r <;> rfl
@[simp] theorem Core.set16_pendingFIRQ (c : Core) (r : Reg16) (v : Word) : (c.set16 r v).pendingFIRQ = c.pendingFIRQ :=
  by cases r <;> rfl
@[simp] theorem Core.set16_pendingNMI (c : Core) (r : Reg16) (v : Word) : (c.set16 r v).pendingNMI = c.pendingNMI :=
  by cases r <;> rfl
@[simp] theorem Core.set16_nmiArmed (c : Core) (r : Reg16) (v : Word) : (c.set16 r v).nmiArmed = c.nmiArmed :=
  by cases r <;> rfl
@[simp] theorem Core.set16_missedIRQ (c : Core) (r : Reg16) (v : Word) : (c.set16 r v).missedIRQ = c.missedIRQ :=
  by cases r <;> rfl
@[simp] theorem Core.set16_missedFIRQ (c : Core) (r : Reg16) (v : Word) : (c.set16 r v).missedFIRQ = c.missedFIRQ :=
  by cases r <;> rfl
@[simp] theorem Core.set16_irqCount (c : Core) (r : Reg16) (v : Word) : (c.set16 r v).irqCount = c.irqCount :=
  by cases r <;> rfl
@[simp] theorem Core.set16_firqCount (c : Core) (r : Reg16) (v : Word) : (c.set16 r v).firqCount = c.firqCount :=
  by cases r <;> rfl
@[simp] theorem Core.set16_tickCount (c : Core) (r : Reg16) (v : Word) : (c.set16 r v).tickCount = c.tickCount :=
  by cases r <;> rfl
@[simp] theorem Core.set16_wait (c : Core) (r : Reg16) (v : Word) : (c.set16 r v).wait = c.wait :=
  by cases r <;> rfl
@[simp] theorem Core.set16_get16 (c : Core) (r : Reg16) (v : Word) : (c.set16 r v).get16 r = v := by
  cases r <;> simp [Core.set16, Core.get16, Core.d, Core.setD]
@[simp] theorem Core.set8_x (c : Core) (r : Reg8) (v : Byte) : (c.set8 r v).x = c.x := by cases r <;> rfl
@[simp] theorem Core.set8_y (c : Core) (r : Reg8) (v : Byte) : (c.set8 r v).y = c.y := by cases r <;> rfl
@[simp] theorem Core.set8_u (c : Core) (r : Reg8) (v : Byte) : (c.set8 r v).u = c.u := by cases r <;> rfl
@[simp] theorem Core.set8_s (c : Core) (r : Reg8) (v : Byte) : (c.set8 r v).s = c.s := by cases r <;> rfl
@[simp] theorem Core.set8_pc (c : Core) (r : Reg8) (v : Byte) : (c.set8 r v).pc = c.pc := by cases r <;> rfl
@[simp] theorem Core.set8_pendingIRQ (c : Core) (r : Reg8) (v : Byte) : (c.set8 r v).pendingIRQ = c.pendingIRQ :=
  by cases r <;> rfl
@[simp] theorem Core.set8_pendingFIRQ (c : Core) (r : Reg8) (v : Byte) : (c.set8 r v).pendingFIRQ = c.pendingFIRQ :=
  by cases r <;> rfl
@[simp] theorem Core.set8_pendingNMI (c : Core) (r : Reg8) (v : Byte) : (c.set8 r v).pendingNMI = c.pendingNMI :=
  by cases r <;> rfl
@[simp] theorem Core.set8_nmiArmed (c : Core) (r : Reg8) (v : Byte) : (c.set8 r v).nmiArmed = c.nmiArmed :=
  by cases r <;> rfl
@[simp] theorem Core.set8_missedIRQ (c : Core) (r : Reg8) (v : Byte) : (c.set8 r v).missedIRQ = c.missedIRQ :=
  by cases r <;> rfl
@[simp] theorem Core.set8_missedFIRQ (c : Core) (r : Reg8) (v : Byte) : (c.set8 r v).missedFIRQ = c.missedFIRQ :=
  by cases r <;> rfl
@[simp] theorem Core.set8_irqCount (c : Core) (r : Reg8) (v : Byte) : (c.set8 r v).irqCount = c.irqCount :=
  by cases r <;> rfl
@[simp] theorem Core.set8_firqCount (c : Core) (r : Reg8) (v : Byte) : (c.set8 r v).firqCount = c.firqCount :=
  by cases r <;> rfl
@[simp] theorem Core.set8_tickCount (c : Core) (r : Reg8) (v : Byte) : (c.set8 r v).tickCount = c.tickCount :=
  by cases r <;> rfl
@[simp] theorem Core.set8_wait (c : Core) (r : Reg8) (v : Byte) : (c.set8 r v).wait = c.wait :=
  by cases r <;> rfl

end Sys2Proof.Machine
end

