-- ==== Sys2Proof/Laws/Ops.lean ====
section
/-! SUPPORT. The operations of a step applied to a state: what each of them answers, so that no later proof unfolds them. -/

namespace Sys2Proof.Machine

@[simp] theorem op_pure {α : Type} (x : α) (s : State) : (pure x : Op α) s = .ok x s := rfl

theorem op_bind {α β : Type} (m : Op α) (k : α → Op β) (s : State) :
    (m >>= k) s = match m s with
      | .ok x s' => k x s'
      | .error e s' => .error e s' := by
  change EStateM.bind m k s = _
  unfold EStateM.bind
  cases m s <;> rfl

theorem op_bind_ok {α β : Type} {m : Op α} {k : α → Op β} {s s' : State} {x : α} (h : m s = .ok x s') :
    (m >>= k) s = k x s' := by rw [op_bind, h]

theorem op_bind_error {α β : Type} {m : Op α} {k : α → Op β} {s s' : State} {e : Unit} (h : m s = .error e s') :
    (m >>= k) s = .error e s' := by rw [op_bind, h]

@[simp] theorem getCore_apply (s : State) : getCore s = .ok s.core s := rfl

@[simp] theorem modifyCore_apply (f : Core → Core) (s : State) : modifyCore f s = .ok () (s.modCore f) := rfl

@[simp] theorem raise_apply {α : Type} (f : FatalCond) (s : State) :
    (raise f : Op α) s = .error () { s with fatal := some f } := rfl

@[simp] theorem armNmi_apply (s : State) :
    armNmi s = .ok () (s.modCore fun c => { c with nmiArmed := c.nmiArmed || s.cfg.hasNmi }) := rfl

@[simp] theorem getCore_bind {β : Type} (k : Core → Op β) (s : State) : (getCore >>= k) s = k s.core s := rfl

@[simp] theorem modifyCore_bind {β : Type} (f : Core → Core) (k : Unit → Op β) (s : State) :
    (modifyCore f >>= k) s = k () (s.modCore f) := rfl

@[simp] theorem pure_bind_apply {α β : Type} (x : α) (k : α → Op β) (s : State) : ((pure x : Op α) >>= k) s = k x s := rfl

/-- What a load of a register leaves: a load of `S` arms the NMI when the core has one (60_exceptions.md R410). -/
@[simp] theorem loadReg_apply (r : Reg16) (v : Word) (s : State) :
    loadReg r v s = .ok () (s.modCore fun c =>
      match r with
      | .s => { c with s := v, nmiArmed := c.nmiArmed || s.cfg.hasNmi }
      | r => c.set16 r v) := by
  cases r <;> simp [loadReg, Core.set16]

/-- A step never stops the machine with a fault or a refusal: its operation ends, or sets `fatal`. -/
theorem runOp_next (cycles : State → Nat) (m : Op Unit) (s : State) : ∃ t, runOp cycles m s = .next t := by
  unfold runOp
  split <;> exact ⟨_, rfl⟩

theorem runOp_ok {cycles : State → Nat} {m : Op Unit} {s s' : State} (h : m s = .ok () s') :
    runOp cycles m s = .next (s'.tick (cycles s')) := by
  rw [runOp, h]

theorem runOp_error {cycles : State → Nat} {m : Op Unit} {s s' : State} {e : Unit} (h : m s = .error e s') :
    runOp cycles m s = .next s' := by
  rw [runOp, h]

/-- An instruction's frame when its operation ends: the cycles of its opcode and its addend. -/
theorem perform_ok {opcode : Nat} {addend : State → Nat} {m : Op Unit} {s s' : State} (h : m s = .ok () s') :
    perform opcode addend m s = .next (s'.tick (s'.cfg.cycles.opcode opcode + addend s')) := by
  rw [perform, runOp_ok h]

/-- An instruction's frame when its operation ends in a fatal condition: no cycles (60_exceptions.md R419). -/
theorem perform_error {opcode : Nat} {addend : State → Nat} {m : Op Unit} {s s' : State} {e : Unit}
    (h : m s = .error e s') : perform opcode addend m s = .next s' := by
  rw [perform, runOp_error h]

end Sys2Proof.Machine
end

