-- ==== Sys2Proof/Laws/Bus.lean ====
section
/-! SUPPORT. The bus of the stepping core: a read always answers and changes only what `ReadEffect` names; a write ends in
`BankError` exactly when `BoardCfg.rejects` says so. -/

namespace Sys2Proof.Machine

/-! ### Where an address leads -/

theorem decodeAddr_lt {c : BoardCfg} {a : Nat} (h : a < 0x10000) : ∃ d, decodeAddr c a = some d := by
  unfold decodeAddr
  rw [if_pos h]
  repeat' split
  all_goals exact ⟨_, rfl⟩

theorem decodeAddr_hardware {c : BoardCfg} {a off : Nat} :
    decodeAddr c a = some ⟨.hardware, off⟩ ↔ a < 0x10000 ∧ inWindow c a = true ∧ off = a := by
  unfold decodeAddr inWindow
  constructor
  · intro h
    split at h
    · split at h
      · simp at h
      · split at h
        · simp only [Option.some.injEq, DecodeResult.mk.injEq, true_and] at h
          subst h
          refine ⟨by assumption, ?_, rfl⟩
          simp
          omega
        · split at h <;> simp at h
    · simp at h
  · rintro ⟨h1, h2, rfl⟩
    simp only [Bool.and_eq_true, decide_eq_true_eq] at h2
    rw [if_pos h1, if_neg (by omega), if_pos h2.2]

theorem decodeAddr_ram {c : BoardCfg} {a off : Nat} :
    decodeAddr c a = some ⟨.ram, off⟩ ↔ a < 0x10000 ∧ a < c.ramEnd ∧ off = a := by
  unfold decodeAddr
  constructor
  · intro h
    split at h
    · split at h
      · simp only [Option.some.injEq, DecodeResult.mk.injEq, true_and] at h
        exact ⟨by assumption, by assumption, h.symm⟩
      · split at h
        · simp at h
        · split at h <;> simp at h
    · simp at h
  · rintro ⟨h1, h2, rfl⟩
    rw [if_pos h1, if_pos h2]

/-- A plain address does not decode to the hardware window. -/
theorem decodeAddr_plain {c : BoardCfg} {a : Word} (h : c.plain a = true) (off : Nat) :
    decodeAddr c a.toNat ≠ some ⟨.hardware, off⟩ := by
  intro hd
  have := (decodeAddr_hardware.mp hd).2.1
  simp [BoardCfg.plain, this] at h

/-! ### What a read changes -/

theorem Core.SameButLines.refl (c : Core) : c.SameButLines c := ⟨_, _, _, _, _, id, rfl⟩

theorem Core.SameButLines.trans {c d e : Core} (h : c.SameButLines d) (k : d.SameButLines e) : c.SameButLines e := by
  obtain ⟨_, _, _, _, _, h1, rfl⟩ := h
  obtain ⟨_, _, _, _, i, h2, rfl⟩ := k
  exact ⟨_, _, _, _, i, fun hi => h1 (h2 hi), rfl⟩

theorem Core.sameButLines_irq (c : Core) : c.SameButLines c.irq := ⟨_, _, _, _, _, id, rfl⟩

theorem Core.sameButLines_firq (c : Core) : c.SameButLines c.firq := ⟨_, _, _, _, _, id, rfl⟩

theorem Core.sameButLines_clearIrqMasking (c : Core) : c.SameButLines c.clearIrqMasking :=
  ⟨_, _, _, _, false, nofun, rfl⟩

theorem State.ReadEffect.refl (s : State) : s.ReadEffect s :=
  ⟨_, _, _, _, _, _, .refl _, .refl _, rfl⟩

theorem State.ReadEffect.trans {s t u : State} (h : s.ReadEffect t) (k : t.ReadEffect u) : s.ReadEffect u := by
  obtain ⟨_, _, _, _, _, _, h1, h2, rfl⟩ := h
  obtain ⟨_, _, _, _, _, _, k1, k2, rfl⟩ := k
  exact ⟨_, _, _, _, _, _, h1.trans k1, h2.trans k2, rfl⟩

theorem State.readEffect_irq (s : State) (b : Board) : s.ReadEffect (s.irq b) := by
  cases b
  · exact ⟨_, _, _, _, _, _, s.main.core.sameButLines_irq, .refl _, rfl⟩
  · exact ⟨_, _, _, _, _, _, .refl _, s.sound.core.sameButLines_irq, rfl⟩

theorem State.readEffect_firq (s : State) (b : Board) : s.ReadEffect (s.firq b) := by
  cases b
  · exact ⟨_, _, _, _, _, _, s.main.core.sameButLines_firq, .refl _, rfl⟩
  · exact ⟨_, _, _, _, _, _, .refl _, s.sound.core.sameButLines_firq, rfl⟩

theorem State.readEffect_devEffects (s : State) (es : List DevEffect) : s.ReadEffect (s.devEffects es) := by
  induction es generalizing s with
  | nil => exact .refl _
  | cons e es ih =>
    refine State.ReadEffect.trans ?_ (ih (s.devEffect e))
    cases e with
    | irq b => exact s.readEffect_irq b
    | firq b => exact s.readEffect_firq b
    | periodicIrqEnable on => exact ⟨_, _, _, _, _, _, .refl _, .refl _, rfl⟩

/-- An input is no call: the write handling and the interrupts of the devices do not see it (70_reset_and_hazards.md R499). -/
@[simp] theorem State.calls_record_input (s : State) {e : DevEvent} (h : e.isInput = true) : (s.record e).calls = s.calls := by
  simp [State.calls, State.record, h]

/-- A call is one. -/
@[simp] theorem State.calls_record_call (s : State) {e : DevEvent} (h : e.isInput = false) :
    (s.record e).calls = e :: s.calls := by
  simp [State.calls, State.record, h]

theorem State.readEffect_devCall (s : State) (e : DevEvent) : s.ReadEffect (s.devCall e) :=
  State.ReadEffect.trans (t := s.record e) ⟨_, _, _, _, _, _, .refl _, .refl _, rfl⟩ (State.readEffect_devEffects _ _)

theorem State.readEffect_report (s : State) (b : Board) (off : Nat) (k : AccessKind) :
    s.ReadEffect (s.report b off k) := ⟨_, _, _, _, _, _, .refl _, .refl _, rfl⟩

theorem State.readEffect_hwRead (s : State) (b : Board) (off : Nat) : s.ReadEffect (s.hwRead b off).2 := by
  unfold State.hwRead
  split
  · exact .refl _
  · split
    · unfold State.readZeroCross
      dsimp only
      split
      · exact .refl _
      · exact ⟨_, _, _, _, _, _, .refl _, .refl _, rfl⟩
    · split
      · exact ⟨_, _, _, _, _, _, .refl _, s.sound.core.sameButLines_clearIrqMasking, rfl⟩
      · unfold State.portRead
        split
        · dsimp only
          split
          · exact s.readEffect_devCall _
          · exact (s.readEffect_devCall _).trans (State.readEffect_report _ _ _ _)
        · exact s.readEffect_report _ _ _

/-- A read of an address answers a byte, and changes only what `ReadEffect` names (20_memory.md R62, R87). -/
theorem busRead_ok (b : Board) {a : Nat} (ha : a < 0x10000) (s : State) :
    ∃ v s', busRead b a s = .ok v s' ∧ s.ReadEffect s' := by
  obtain ⟨d, hd⟩ := decodeAddr_lt (c := s.cfg.board b) ha
  unfold busRead
  rw [hd]
  obtain ⟨k, off⟩ := d
  cases k
  case hardware => exact ⟨_, _, rfl, s.readEffect_hwRead b off⟩
  all_goals exact ⟨_, _, rfl, .refl s⟩

/-- A read outside the hardware window answers what stands there and changes nothing (R62). -/
theorem busRead_plain (b : Board) {a : Word} {s : State} (h : (s.cfg.board b).plain a = true) :
    busRead b a.toNat s = .ok (s.peek b a.toNat) s := by
  obtain ⟨d, hd⟩ := decodeAddr_lt (c := s.cfg.board b) a.isLt
  unfold busRead
  rw [hd]
  obtain ⟨k, off⟩ := d
  cases k
  case hardware => exact absurd hd (decodeAddr_plain h off)
  all_goals rfl

theorem memRead8_ok (a : Word) (s : State) : ∃ v s', memRead8 a s = .ok v s' ∧ s.ReadEffect s' :=
  busRead_ok _ a.isLt s

theorem memRead8_plain {a : Word} {s : State} (h : s.myCfg.plain a = true) : memRead8 a s = .ok (s.at a) s :=
  busRead_plain _ h

/-! ### What the effect of a read keeps -/

theorem State.ReadEffect.cfg {s t : State} (h : s.ReadEffect t) : t.cfg = s.cfg := by
  obtain ⟨_, _, _, _, _, _, _, _, rfl⟩ := h; rfl

theorem State.ReadEffect.lock {s t : State} (h : s.ReadEffect t) : t.lock = s.lock := by
  obtain ⟨_, _, _, _, _, _, _, _, rfl⟩ := h; rfl

theorem State.ReadEffect.active {s t : State} (h : s.ReadEffect t) : t.active = s.active := by
  unfold State.active; rw [h.lock]

theorem State.ReadEffect.fatal {s t : State} (h : s.ReadEffect t) : t.fatal = s.fatal := by
  obtain ⟨_, _, _, _, _, _, _, _, rfl⟩ := h; rfl

theorem State.ReadEffect.coreOf {s t : State} (h : s.ReadEffect t) (b : Board) :
    (s.coreOf b).SameButLines (t.coreOf b) := by
  obtain ⟨_, _, _, _, _, _, h1, h2, rfl⟩ := h
  cases b
  · exact h1
  · exact h2

theorem State.ReadEffect.core {s t : State} (h : s.ReadEffect t) : s.core.SameButLines t.core := by
  unfold State.core; rw [h.active]; exact h.coreOf _

theorem State.ReadEffect.ram {s t : State} (h : s.ReadEffect t) (b : Board) : (t.bd b).ram = (s.bd b).ram := by
  obtain ⟨_, _, _, _, _, _, _, _, rfl⟩ := h; cases b <;> rfl

theorem State.ReadEffect.hwShadow {s t : State} (h : s.ReadEffect t) (b : Board) :
    (t.bd b).hwShadow = (s.bd b).hwShadow := by
  obtain ⟨_, _, _, _, _, _, _, _, rfl⟩ := h; cases b <;> rfl

theorem State.ReadEffect.bank {s t : State} (h : s.ReadEffect t) (b : Board) : (t.bd b).bank = (s.bd b).bank := by
  obtain ⟨_, _, _, _, _, _, _, _, rfl⟩ := h; cases b <;> rfl

/-- Every byte of memory reads as before. -/
theorem State.peek_congr {s t : State} {b : Board} (hc : t.cfg = s.cfg) (hr : (t.bd b).ram = (s.bd b).ram)
    (hs : (t.bd b).hwShadow = (s.bd b).hwShadow) (hb : (t.bd b).bank = (s.bd b).bank) (x : Nat) :
    t.peek b x = s.peek b x := by
  unfold State.peek State.bankedByte
  rw [hc, hr, hs, hb]

theorem State.ReadEffect.peek {s t : State} (h : s.ReadEffect t) (b : Board) (x : Nat) : t.peek b x = s.peek b x :=
  State.peek_congr h.cfg (h.ram b) (h.hwShadow b) (h.bank b) x

/-! ### Writes -/

/-- A write is taken, or ends in `BankError` with the byte in the shadow (20_memory.md R80, R81). -/
theorem memWrite8_cases (a : Word) (v : Byte) (s : State) :
    (s.myCfg.rejects a v = false ∧ memWrite8 a v s = .ok () (s.stored a v)) ∨
    (s.myCfg.rejects a v = true ∧ memWrite8 a v s = .error () (s.stored a v) ∧
      s.stored a v = { s.setShadow s.active a.toNat v with fatal := some (.bankError s.active v) }) := by
  have key : ∀ r, memWrite8 a v s = r →
      (s.myCfg.rejects a v = false ∧ ∃ t, r = .ok () t) ∨
      (s.myCfg.rejects a v = true ∧
        r = .error () { s.setShadow s.active a.toNat v with fatal := some (.bankError s.active v) }) := by
    rintro r rfl
    obtain ⟨d, hd⟩ := decodeAddr_lt (c := s.myCfg) a.isLt
    have hd' := hd
    unfold memWrite8 busWrite
    rw [show s.cfg.board s.active = s.myCfg from rfl, hd]
    obtain ⟨k, off⟩ := d
    cases k
    case hardware =>
      obtain ⟨h1, h2, rfl⟩ := decodeAddr_hardware.mp hd
      simp only [hwWrite, State.setShadow_cfg, show s.cfg.board s.active = s.myCfg from rfl]
      by_cases hb : a.toNat = s.myCfg.bankSelect
      · rw [if_pos hb]
        unfold selectBank
        simp only [State.setShadow_cfg, show s.cfg.board s.active = s.myCfg from rfl]
        have hrej : s.myCfg.rejects a v = (acceptedBank s.myCfg v).isNone := by
          simp [BoardCfg.rejects, h2, ← hb]
        rw [hrej]
        cases acceptedBank s.myCfg v with
        | some i => exact .inl ⟨rfl, _, rfl⟩
        | none => exact .inr ⟨rfl, by simp⟩
      · rw [if_neg hb]
        refine .inl ⟨by simp [BoardCfg.rejects, hb], ?_⟩
        split
        · exact ⟨_, rfl⟩
        · split <;> exact ⟨_, rfl⟩
    all_goals
      refine .inl ⟨?_, _, rfl⟩
      have hn : inWindow s.myCfg a.toNat = false := by
        cases hw : inWindow s.myCfg a.toNat with
        | false => rfl
        | true =>
          rw [decodeAddr_hardware.mpr ⟨a.isLt, hw, rfl⟩] at hd'
          simp at hd'
      simp [BoardCfg.rejects, hn]
  rcases key _ rfl with ⟨h, t, ht⟩ | ⟨h, ht⟩
  · exact .inl ⟨h, by rw [State.stored, ht]⟩
  · exact .inr ⟨h, by rw [State.stored, ht], by rw [State.stored, ht]⟩

theorem memWrite8_ok {a : Word} {v : Byte} {s : State} (h : s.myCfg.rejects a v = false) :
    memWrite8 a v s = .ok () (s.stored a v) := by
  rcases memWrite8_cases a v s with ⟨_, h2⟩ | ⟨h1, _⟩
  · exact h2
  · rw [h] at h1; cases h1

theorem memWrite8_rejected {a : Word} {v : Byte} {s : State} (h : s.myCfg.rejects a v = true) :
    memWrite8 a v s = .error () { s.setShadow s.active a.toNat v with fatal := some (.bankError s.active v) } := by
  rcases memWrite8_cases a v s with ⟨h1, _⟩ | ⟨_, h2, h3⟩
  · rw [h] at h1; cases h1
  · rw [h2, h3]

end Sys2Proof.Machine
end

