-- ==== Sys2Proof/Laws/Decode.lean ====
section
/-! SUPPORT. What the decoder answers, format by format: no later proof unfolds the opcode tables. -/

namespace Sys2Proof

theorem decode_page1 {b : Byte} (h2 : b ≠ 0x10#8) (h3 : b ≠ 0x11#8) (bs : List Byte) :
    decode (b :: bs) = decodePage page1 .page1 (b :: bs) := by
  rw [decode, if_neg h2, if_neg h3]

theorem decode_page2 (bs : List Byte) : decode (0x10#8 :: bs) = decodePage page2 .page2 bs := rfl

theorem decode_page3 (bs : List Byte) : decode (0x11#8 :: bs) = decodePage page3 .page3 bs := rfl

theorem decodePage_some {rows : List (Byte × Form)} {b : Byte} {f : Form} (h : lookupForm rows b = some f)
    (err : DecodeError) (bs : List Byte) : decodePage rows err (b :: bs) = decodeOperand f bs := by
  simp only [decodePage, h]

theorem decodePage_none {rows : List (Byte × Form)} {b : Byte} (h : lookupForm rows b = none) (err : DecodeError)
    (bs : List Byte) : decodePage rows err (b :: bs) = .invalid err := by
  simp only [decodePage, h]

/-- A form's operand bytes decode to the instruction they were written from. -/
theorem decodeOperand_word (f : Word → Instr) (v : Word) (rest : List Byte) :
    decodeOperand (.word f) (hiByte v :: loByte v :: rest) = .instr (f v) rest := by
  simp only [decodeOperand, word_hiByte_loByte]

theorem idxRegOf_code (r : IdxReg) : idxRegOf r.code = r := by cases r <;> rfl

theorem code_idxRegOf (rr : BitVec 2) : (idxRegOf rr).code = rr := by
  revert rr
  decide

/-- The fields of a postbyte of layout B (30_encoding.md R120). -/
theorem layoutB_fields (r : IdxReg) (ind : Bool) (m : BitVec 4) :
    (layoutB r ind m).getLsbD 7 = true ∧ (layoutB r ind m).getLsbD 4 = ind ∧
      ((layoutB r ind m).extractLsb' 0 4).toNat = m.toNat ∧ (layoutB r ind m).extractLsb' 5 2 = r.code := by
  cases r <;> cases ind <;> revert m <;> decide

/-- The fields of a postbyte of layout A (R120). -/
theorem layoutA_fields (r : IdxReg) (n : BitVec 5) :
    (Indexed.off5 r n).postbyte.getLsbD 7 = false ∧ idxRegOf ((Indexed.off5 r n).postbyte.extractLsb' 5 2) = r ∧
      (Indexed.off5 r n).postbyte.extractLsb' 0 5 = n := by
  cases r <;> revert n <;> decide

/-- An indexed operand's bytes decode to it (R121 to R135). -/
theorem decodeIndexed_bytes (p : Indexed) (rest : List Byte) : decodeIndexed (p.bytes ++ rest) = .ok p rest := by
  cases p with
  | off5 r n =>
    obtain ⟨h1, h2, h3⟩ := layoutA_fields r n
    simp only [Indexed.bytes, List.cons_append, List.nil_append, decodeIndexed, h1, h2, h3, Bool.false_eq_true, if_false]
  | extInd n => simp [Indexed.bytes, decodeIndexed, Indexed.postbyte, layoutB, idxWord, decodeLayoutB, IdxReg.code]
  | _ =>
    simp only [Indexed.bytes, decodeIndexed, List.cons_append, List.nil_append, Indexed.postbyte]
    simp only [(layoutB_fields _ _ _).1, (layoutB_fields _ _ _).2.1, (layoutB_fields _ _ _).2.2.1,
      (layoutB_fields _ _ _).2.2.2, if_true, decodeLayoutB, idxRegOf_code, BitVec.toNat_ofNat]
    simp [idxDone, idxByte, idxWord]

theorem decodeOperand_idx (f : Indexed → Instr) (p : Indexed) (rest : List Byte) :
    decodeOperand (.idx f) (p.bytes ++ rest) = .instr (f p) rest := by
  rw [decodeOperand, decodeIndexed_bytes]

theorem regOf_code (r : Reg) : regOf r.code = some r := by
  rcases r with r | r <;> cases r <;> rfl

theorem code_of_regOf {c : BitVec 4} {r : Reg} (h : regOf c = some r) : r.code = c := by
  revert h
  revert c
  rcases r with r | r <;> cases r <;> decide

theorem regPostbyte_nibbles (r0 r1 : Reg) :
    hiNibble (regPostbyte r0 r1) = r0.code ∧ loNibble (regPostbyte r0 r1) = r1.code := by
  unfold hiNibble loNibble regPostbyte
  generalize r0.code = a
  generalize r1.code = b
  revert a b
  decide

/-- A register postbyte decodes to its two registers (43_transfer_stack.md R300). -/
theorem decodeRegs_postbyte (f : Reg → Reg → Instr) {r0 r1 : Reg} (h : r0.sameWidth r1 = true) (rest : List Byte) :
    decodeRegs f (regPostbyte r0 r1) rest = .instr (f r0 r1) rest := by
  simp only [decodeRegs, (regPostbyte_nibbles r0 r1).1, (regPostbyte_nibbles r0 r1).2, regOf_code]
  exact if_pos h

end Sys2Proof
end

