-- ==== Sys2Proof/Laws/Families.lean ====
section
/-! SUPPORT. The 268 constructors by family: a statement about every instruction follows from one about each family of
Syntax.lean and one about each instruction that has none. -/

namespace Sys2Proof

/-- A statement about every instruction, family by family. -/
theorem Instr.byFamily {P : Instr → Prop}
    (bin8 : ∀ o r src, P (Instr.bin8 o r src))
    (load16 : ∀ r src, P (Instr.load16 r src))
    (cmp16 : ∀ r src, P (Instr.cmp16 r src))
    (addD : ∀ src, P (Instr.addD src))
    (subD : ∀ src, P (Instr.subD src))
    (store8 : ∀ r m, P (Instr.store8 r m))
    (store16 : ∀ r m, P (Instr.store16 r m))
    (lea : ∀ r p, P (Instr.lea r p))
    (un8Acc : ∀ o r, P (Instr.un8Acc o r))
    (un8Mem : ∀ o m, P (Instr.un8Mem o m))
    (branch : ∀ k o, P (Instr.branch k o))
    (longBranch : ∀ k o, P (Instr.longBranch k o))
    (jump : ∀ m, P (Instr.jump m))
    (jumpSub : ∀ m, P (Instr.jumpSub m))
    (mul : P .mul)
    (daa : P .daa)
    (sex : P .sex)
    (abx : P .abx)
    (andcc : ∀ v, P (.andcc v))
    (orcc : ∀ v, P (.orcc v))
    (tfr : ∀ r0 r1, P (.tfr r0 r1))
    (exg : ∀ r0 r1, P (.exg r0 r1))
    (pshs : ∀ m, P (.pshs m))
    (puls : ∀ m, P (.puls m))
    (pshu : ∀ m, P (.pshu m))
    (pulu : ∀ m, P (.pulu m))
    (bsr : ∀ o, P (.bsr o))
    (lbsr : ∀ o, P (.lbsr o))
    (rts : P .rts)
    (nop : P .nop)
    (swi : P .swi)
    (swi2 : P .swi2)
    (swi3 : P .swi3)
    (rti : P .rti)
    (cwai : ∀ v, P (.cwai v))
    (sync : P .sync) :
    ∀ i, P i := by
  intro i
  cases i with
  | ldaImm v => exact bin8 .ld .a (.imm v)
  | ldaDir a => exact bin8 .ld .a (.mem (.dir a))
  | ldaIdx p => exact bin8 .ld .a (.mem (.idx p))
  | ldaExt a => exact bin8 .ld .a (.mem (.ext a))
  | ldbImm v => exact bin8 .ld .b (.imm v)
  | ldbDir a => exact bin8 .ld .b (.mem (.dir a))
  | ldbIdx p => exact bin8 .ld .b (.mem (.idx p))
  | ldbExt a => exact bin8 .ld .b (.mem (.ext a))
  | lddImm v => exact load16 .d (.imm v)
  | lddDir a => exact load16 .d (.mem (.dir a))
  | lddIdx p => exact load16 .d (.mem (.idx p))
  | lddExt a => exact load16 .d (.mem (.ext a))
  | ldxImm v => exact load16 .x (.imm v)
  | ldxDir a => exact load16 .x (.mem (.dir a))
  | ldxIdx p => exact load16 .x (.mem (.idx p))
  | ldxExt a => exact load16 .x (.mem (.ext a))
  | ldyImm v => exact load16 .y (.imm v)
  | ldyDir a => exact load16 .y (.mem (.dir a))
  | ldyIdx p => exact load16 .y (.mem (.idx p))
  | ldyExt a => exact load16 .y (.mem (.ext a))
  | lduImm v => exact load16 .u (.imm v)
  | lduDir a => exact load16 .u (.mem (.dir a))
  | lduIdx p => exact load16 .u (.mem (.idx p))
  | lduExt a => exact load16 .u (.mem (.ext a))
  | ldsImm v => exact load16 .s (.imm v)
  | ldsDir a => exact load16 .s (.mem (.dir a))
  | ldsIdx p => exact load16 .s (.mem (.idx p))
  | ldsExt a => exact load16 .s (.mem (.ext a))
  | staDir a => exact store8 .a (.dir a)
  | staIdx p => exact store8 .a (.idx p)
  | staExt a => exact store8 .a (.ext a)
  | stbDir a => exact store8 .b (.dir a)
  | stbIdx p => exact store8 .b (.idx p)
  | stbExt a => exact store8 .b (.ext a)
  | stdDir a => exact store16 .d (.dir a)
  | stdIdx p => exact store16 .d (.idx p)
  | stdExt a => exact store16 .d (.ext a)
  | stxDir a => exact store16 .x (.dir a)
  | stxIdx p => exact store16 .x (.idx p)
  | stxExt a => exact store16 .x (.ext a)
  | styDir a => exact store16 .y (.dir a)
  | styIdx p => exact store16 .y (.idx p)
  | styExt a => exact store16 .y (.ext a)
  | stuDir a => exact store16 .u (.dir a)
  | stuIdx p => exact store16 .u (.idx p)
  | stuExt a => exact store16 .u (.ext a)
  | stsDir a => exact store16 .s (.dir a)
  | stsIdx p => exact store16 .s (.idx p)
  | stsExt a => exact store16 .s (.ext a)
  | leax p => exact lea .x p
  | leay p => exact lea .y p
  | leas p => exact lea .s p
  | leau p => exact lea .u p
  | addaImm v => exact bin8 .add .a (.imm v)
  | addaDir a => exact bin8 .add .a (.mem (.dir a))
  | addaIdx p => exact bin8 .add .a (.mem (.idx p))
  | addaExt a => exact bin8 .add .a (.mem (.ext a))
  | addbImm v => exact bin8 .add .b (.imm v)
  | addbDir a => exact bin8 .add .b (.mem (.dir a))
  | addbIdx p => exact bin8 .add .b (.mem (.idx p))
  | addbExt a => exact bin8 .add .b (.mem (.ext a))
  | adcaImm v => exact bin8 .adc .a (.imm v)
  | adcaDir a => exact bin8 .adc .a (.mem (.dir a))
  | adcaIdx p => exact bin8 .adc .a (.mem (.idx p))
  | adcaExt a => exact bin8 .adc .a (.mem (.ext a))
  | adcbImm v => exact bin8 .adc .b (.imm v)
  | adcbDir a => exact bin8 .adc .b (.mem (.dir a))
  | adcbIdx p => exact bin8 .adc .b (.mem (.idx p))
  | adcbExt a => exact bin8 .adc .b (.mem (.ext a))
  | subaImm v => exact bin8 .sub .a (.imm v)
  | subaDir a => exact bin8 .sub .a (.mem (.dir a))
  | subaIdx p => exact bin8 .sub .a (.mem (.idx p))
  | subaExt a => exact bin8 .sub .a (.mem (.ext a))
  | subbImm v => exact bin8 .sub .b (.imm v)
  | subbDir a => exact bin8 .sub .b (.mem (.dir a))
  | subbIdx p => exact bin8 .sub .b (.mem (.idx p))
  | subbExt a => exact bin8 .sub .b (.mem (.ext a))
  | sbcaImm v => exact bin8 .sbc .a (.imm v)
  | sbcaDir a => exact bin8 .sbc .a (.mem (.dir a))
  | sbcaIdx p => exact bin8 .sbc .a (.mem (.idx p))
  | sbcaExt a => exact bin8 .sbc .a (.mem (.ext a))
  | sbcbImm v => exact bin8 .sbc .b (.imm v)
  | sbcbDir a => exact bin8 .sbc .b (.mem (.dir a))
  | sbcbIdx p => exact bin8 .sbc .b (.mem (.idx p))
  | sbcbExt a => exact bin8 .sbc .b (.mem (.ext a))
  | cmpaImm v => exact bin8 .cmp .a (.imm v)
  | cmpaDir a => exact bin8 .cmp .a (.mem (.dir a))
  | cmpaIdx p => exact bin8 .cmp .a (.mem (.idx p))
  | cmpaExt a => exact bin8 .cmp .a (.mem (.ext a))
  | cmpbImm v => exact bin8 .cmp .b (.imm v)
  | cmpbDir a => exact bin8 .cmp .b (.mem (.dir a))
  | cmpbIdx p => exact bin8 .cmp .b (.mem (.idx p))
  | cmpbExt a => exact bin8 .cmp .b (.mem (.ext a))
  | adddImm v => exact addD (.imm v)
  | adddDir a => exact addD (.mem (.dir a))
  | adddIdx p => exact addD (.mem (.idx p))
  | adddExt a => exact addD (.mem (.ext a))
  | subdImm v => exact subD (.imm v)
  | subdDir a => exact subD (.mem (.dir a))
  | subdIdx p => exact subD (.mem (.idx p))
  | subdExt a => exact subD (.mem (.ext a))
  | cmpdImm v => exact cmp16 .d (.imm v)
  | cmpdDir a => exact cmp16 .d (.mem (.dir a))
  | cmpdIdx p => exact cmp16 .d (.mem (.idx p))
  | cmpdExt a => exact cmp16 .d (.mem (.ext a))
  | cmpxImm v => exact cmp16 .x (.imm v)
  | cmpxDir a => exact cmp16 .x (.mem (.dir a))
  | cmpxIdx p => exact cmp16 .x (.mem (.idx p))
  | cmpxExt a => exact cmp16 .x (.mem (.ext a))
  | cmpyImm v => exact cmp16 .y (.imm v)
  | cmpyDir a => exact cmp16 .y (.mem (.dir a))
  | cmpyIdx p => exact cmp16 .y (.mem (.idx p))
  | cmpyExt a => exact cmp16 .y (.mem (.ext a))
  | cmpuImm v => exact cmp16 .u (.imm v)
  | cmpuDir a => exact cmp16 .u (.mem (.dir a))
  | cmpuIdx p => exact cmp16 .u (.mem (.idx p))
  | cmpuExt a => exact cmp16 .u (.mem (.ext a))
  | cmpsImm v => exact cmp16 .s (.imm v)
  | cmpsDir a => exact cmp16 .s (.mem (.dir a))
  | cmpsIdx p => exact cmp16 .s (.mem (.idx p))
  | cmpsExt a => exact cmp16 .s (.mem (.ext a))
  | nega => exact un8Acc .neg .a
  | negb => exact un8Acc .neg .b
  | negDir a => exact un8Mem .neg (.dir a)
  | negIdx p => exact un8Mem .neg (.idx p)
  | negExt a => exact un8Mem .neg (.ext a)
  | inca => exact un8Acc .inc .a
  | incb => exact un8Acc .inc .b
  | incDir a => exact un8Mem .inc (.dir a)
  | incIdx p => exact un8Mem .inc (.idx p)
  | incExt a => exact un8Mem .inc (.ext a)
  | deca => exact un8Acc .dec .a
  | decb => exact un8Acc .dec .b
  | decDir a => exact un8Mem .dec (.dir a)
  | decIdx p => exact un8Mem .dec (.idx p)
  | decExt a => exact un8Mem .dec (.ext a)
  | clra => exact un8Acc .clr .a
  | clrb => exact un8Acc .clr .b
  | clrDir a => exact un8Mem .clr (.dir a)
  | clrIdx p => exact un8Mem .clr (.idx p)
  | clrExt a => exact un8Mem .clr (.ext a)
  | tsta => exact un8Acc .tst .a
  | tstb => exact un8Acc .tst .b
  | tstDir a => exact un8Mem .tst (.dir a)
  | tstIdx p => exact un8Mem .tst (.idx p)
  | tstExt a => exact un8Mem .tst (.ext a)
  | mul => exact mul
  | daa => exact daa
  | sex => exact sex
  | abx => exact abx
  | andaImm v => exact bin8 .and .a (.imm v)
  | andaDir a => exact bin8 .and .a (.mem (.dir a))
  | andaIdx p => exact bin8 .and .a (.mem (.idx p))
  | andaExt a => exact bin8 .and .a (.mem (.ext a))
  | andbImm v => exact bin8 .and .b (.imm v)
  | andbDir a => exact bin8 .and .b (.mem (.dir a))
  | andbIdx p => exact bin8 .and .b (.mem (.idx p))
  | andbExt a => exact bin8 .and .b (.mem (.ext a))
  | oraImm v => exact bin8 .or .a (.imm v)
  | oraDir a => exact bin8 .or .a (.mem (.dir a))
  | oraIdx p => exact bin8 .or .a (.mem (.idx p))
  | oraExt a => exact bin8 .or .a (.mem (.ext a))
  | orbImm v => exact bin8 .or .b (.imm v)
  | orbDir a => exact bin8 .or .b (.mem (.dir a))
  | orbIdx p => exact bin8 .or .b (.mem (.idx p))
  | orbExt a => exact bin8 .or .b (.mem (.ext a))
  | eoraImm v => exact bin8 .eor .a (.imm v)
  | eoraDir a => exact bin8 .eor .a (.mem (.dir a))
  | eoraIdx p => exact bin8 .eor .a (.mem (.idx p))
  | eoraExt a => exact bin8 .eor .a (.mem (.ext a))
  | eorbImm v => exact bin8 .eor .b (.imm v)
  | eorbDir a => exact bin8 .eor .b (.mem (.dir a))
  | eorbIdx p => exact bin8 .eor .b (.mem (.idx p))
  | eorbExt a => exact bin8 .eor .b (.mem (.ext a))
  | bitaImm v => exact bin8 .bit .a (.imm v)
  | bitaDir a => exact bin8 .bit .a (.mem (.dir a))
  | bitaIdx p => exact bin8 .bit .a (.mem (.idx p))
  | bitaExt a => exact bin8 .bit .a (.mem (.ext a))
  | bitbImm v => exact bin8 .bit .b (.imm v)
  | bitbDir a => exact bin8 .bit .b (.mem (.dir a))
  | bitbIdx p => exact bin8 .bit .b (.mem (.idx p))
  | bitbExt a => exact bin8 .bit .b (.mem (.ext a))
  | coma => exact un8Acc .com .a
  | comb => exact un8Acc .com .b
  | comDir a => exact un8Mem .com (.dir a)
  | comIdx p => exact un8Mem .com (.idx p)
  | comExt a => exact un8Mem .com (.ext a)
  | andcc v => exact andcc v
  | orcc v => exact orcc v
  | lsra => exact un8Acc .lsr .a
  | lsrb => exact un8Acc .lsr .b
  | lsrDir a => exact un8Mem .lsr (.dir a)
  | lsrIdx p => exact un8Mem .lsr (.idx p)
  | lsrExt a => exact un8Mem .lsr (.ext a)
  | asra => exact un8Acc .asr .a
  | asrb => exact un8Acc .asr .b
  | asrDir a => exact un8Mem .asr (.dir a)
  | asrIdx p => exact un8Mem .asr (.idx p)
  | asrExt a => exact un8Mem .asr (.ext a)
  | asla => exact un8Acc .asl .a
  | aslb => exact un8Acc .asl .b
  | aslDir a => exact un8Mem .asl (.dir a)
  | aslIdx p => exact un8Mem .asl (.idx p)
  | aslExt a => exact un8Mem .asl (.ext a)
  | rola => exact un8Acc .rol .a
  | rolb => exact un8Acc .rol .b
  | rolDir a => exact un8Mem .rol (.dir a)
  | rolIdx p => exact un8Mem .rol (.idx p)
  | rolExt a => exact un8Mem .rol (.ext a)
  | rora => exact un8Acc .ror .a
  | rorb => exact un8Acc .ror .b
  | rorDir a => exact un8Mem .ror (.dir a)
  | rorIdx p => exact un8Mem .ror (.idx p)
  | rorExt a => exact un8Mem .ror (.ext a)
  | tfr r0 r1 => exact tfr r0 r1
  | exg r0 r1 => exact exg r0 r1
  | pshs m => exact pshs m
  | puls m => exact puls m
  | pshu m => exact pshu m
  | pulu m => exact pulu m
  | bra o => exact branch .ra o
  | brn o => exact branch .rn o
  | bhi o => exact branch .hi o
  | bls o => exact branch .ls o
  | bcc o => exact branch .cc o
  | bcs o => exact branch .cs o
  | bne o => exact branch .ne o
  | beq o => exact branch .eq o
  | bvc o => exact branch .vc o
  | bvs o => exact branch .vs o
  | bpl o => exact branch .pl o
  | bmi o => exact branch .mi o
  | bge o => exact branch .ge o
  | blt o => exact branch .lt o
  | bgt o => exact branch .gt o
  | ble o => exact branch .le o
  | lbra o => exact longBranch .ra o
  | lbrn o => exact longBranch .rn o
  | lbhi o => exact longBranch .hi o
  | lbls o => exact longBranch .ls o
  | lbcc o => exact longBranch .cc o
  | lbcs o => exact longBranch .cs o
  | lbne o => exact longBranch .ne o
  | lbeq o => exact longBranch .eq o
  | lbvc o => exact longBranch .vc o
  | lbvs o => exact longBranch .vs o
  | lbpl o => exact longBranch .pl o
  | lbmi o => exact longBranch .mi o
  | lbge o => exact longBranch .ge o
  | lblt o => exact longBranch .lt o
  | lbgt o => exact longBranch .gt o
  | lble o => exact longBranch .le o
  | bsr o => exact bsr o
  | lbsr o => exact lbsr o
  | jmpDir a => exact jump (.dir a)
  | jmpIdx p => exact jump (.idx p)
  | jmpExt a => exact jump (.ext a)
  | jsrDir a => exact jumpSub (.dir a)
  | jsrIdx p => exact jumpSub (.idx p)
  | jsrExt a => exact jumpSub (.ext a)
  | rts => exact rts
  | nop => exact nop
  | swi => exact swi
  | swi2 => exact swi2
  | swi3 => exact swi3
  | rti => exact rti
  | cwai v => exact cwai v
  | sync => exact sync

end Sys2Proof
end

