-- ==== Sys2Proof/Laws/Exec.lean ====
section
/-! SUPPORT. `exec` of each family: the shared operation, framed by the cycles of the row's opcode. No later proof unfolds
`exec`. -/

namespace Sys2Proof.Machine

theorem exec_bin8 (o : Bin8) (r : Acc) (src : Src8) (s : State) :
    exec (Instr.bin8 o r src) s =
      perform (Instr.bin8 o r src).opcode (fun t => src.addend t.cfg) (bin8 o r src) s := by
  cases o <;> cases r <;> rcases src with _ | (_ | _ | _) <;> rfl

theorem exec_load16 (r : Wide) (src : Src16) (s : State) :
    exec (Instr.load16 r src) s =
      perform (Instr.load16 r src).opcode (fun t => src.addend t.cfg) (load16 r src) s := by
  cases r <;> rcases src with _ | (_ | _ | _) <;> rfl

theorem exec_cmp16 (r : Wide) (src : Src16) (s : State) :
    exec (Instr.cmp16 r src) s =
      perform (Instr.cmp16 r src).opcode (fun t => src.addend t.cfg) (cmp16 r src) s := by
  cases r <;> rcases src with _ | (_ | _ | _) <;> rfl

theorem exec_addD (src : Src16) (s : State) :
    exec (Instr.addD src) s = perform (Instr.addD src).opcode (fun t => src.addend t.cfg) (addD src) s := by
  rcases src with _ | (_ | _ | _) <;> rfl

theorem exec_subD (src : Src16) (s : State) :
    exec (Instr.subD src) s = perform (Instr.subD src).opcode (fun t => src.addend t.cfg) (subD src) s := by
  rcases src with _ | (_ | _ | _) <;> rfl

theorem exec_store8 (r : Acc) (m : MemOp) (s : State) :
    exec (Instr.store8 r m) s = perform (Instr.store8 r m).opcode (fun t => m.addend t.cfg) (store8 r m) s := by
  cases r <;> cases m <;> rfl

theorem exec_store16 (r : Wide) (m : MemOp) (s : State) :
    exec (Instr.store16 r m) s = perform (Instr.store16 r m).opcode (fun t => m.addend t.cfg) (store16 r m) s := by
  cases r <;> cases m <;> rfl

theorem exec_lea (r : IdxReg) (p : Indexed) (s : State) :
    exec (Instr.lea r p) s = perform (Instr.lea r p).opcode (fun t => t.cfg.cycles.indexed p.postbyte) (lea r p) s := by
  cases r <;> rfl

theorem exec_un8Acc (o : Un8) (r : Acc) (s : State) :
    exec (Instr.un8Acc o r) s = perform (Instr.un8Acc o r).opcode noAddend (un8Acc o r) s := by
  cases o <;> cases r <;> rfl

theorem exec_un8Mem (o : Un8) (m : MemOp) (s : State) :
    exec (Instr.un8Mem o m) s = perform (Instr.un8Mem o m).opcode (fun t => m.addend t.cfg) (un8Mem o m) s := by
  cases o <;> cases m <;> rfl

theorem exec_branch (k : Cond) (o : Byte) (s : State) :
    exec (Instr.branch k o) s = perform (Instr.branch k o).opcode noAddend (branch k (sext8 o)) s := by
  cases k <;> rfl

/-- The cycle a taken long conditional branch adds (44_branch.md R361); `LBRA` adds none. -/
def longAddend (k : Cond) (t : State) : Nat := if k = .ra then 0 else takenAddend k t

theorem exec_longBranch (k : Cond) (o : Word) (s : State) :
    exec (Instr.longBranch k o) s = perform (Instr.longBranch k o).opcode (longAddend k) (branch k o) s := by
  cases k <;> rfl

theorem exec_jump (m : MemOp) (s : State) :
    exec (Instr.jump m) s = perform (Instr.jump m).opcode (fun t => m.addend t.cfg) (jump m) s := by
  cases m <;> rfl

theorem exec_jumpSub (m : MemOp) (s : State) :
    exec (Instr.jumpSub m) s = perform (Instr.jumpSub m).opcode (fun t => m.addend t.cfg) (jumpSub m) s := by
  cases m <;> rfl

end Sys2Proof.Machine
end

