-- ==== Sys2Proof/Laws/Operands.lean ====
section
/-! SUPPORT. Operands: every effective address and every operand read has an answer, and what it changes. -/

namespace Sys2Proof.Machine

@[simp] theorem MemOp.update_dir (a : Byte) : (MemOp.dir a).update = fun c => c := rfl
@[simp] theorem MemOp.update_ext (a : Word) : (MemOp.ext a).update = fun c => c := rfl
@[simp] theorem MemOp.update_idx (p : Indexed) : (MemOp.idx p).update = p.update := rfl
@[simp] theorem Src8.update_imm (v : Byte) : (Src8.imm v).update = fun c => c := rfl
@[simp] theorem Src8.update_mem (m : MemOp) : (Src8.mem m).update = m.update := rfl
@[simp] theorem Src16.update_imm (v : Word) : (Src16.imm v).update = fun c => c := rfl
@[simp] theorem Src16.update_mem (m : MemOp) : (Src16.mem m).update = m.update := rfl

theorem memRead16_ok (a : Word) (s : State) : ∃ v s', memRead16 a s = .ok v s' ∧ s.ReadEffect s' := by
  obtain ⟨hi, s1, h1, e1⟩ := memRead8_ok a s
  obtain ⟨lo, s2, h2, e2⟩ := memRead8_ok (a + 1#16) s1
  refine ⟨word hi lo, s2, ?_, e1.trans e2⟩
  rw [memRead16, op_bind_ok h1, op_bind_ok h2]
  rfl

theorem memRead16_plain {a : Word} {s : State} (h : s.myCfg.plain a = true) (h' : s.myCfg.plain (a + 1#16) = true) :
    memRead16 a s = .ok (s.at16 a) s := by
  rw [memRead16, op_bind_ok (memRead8_plain h), op_bind_ok (memRead8_plain h')]
  rfl

theorem indexedEA_direct {p : Indexed} (h : p.isIndirect = false) (s : State) :
    indexedEA p s = .ok (p.pointer s.core) (s.modCore p.update) := by
  simp only [indexedEA, indirect, h, getCore_bind, modifyCore_bind]
  rfl

theorem indexedEA_indirect {p : Indexed} (h : p.isIndirect = true) (s : State) :
    indexedEA p s = memRead16 (p.pointer s.core) (s.modCore p.update) := by
  simp [indexedEA, indirect, h]

/-- An effective address is always answered; beside the base register of the auto modes only what a read may change is
changed (30_encoding.md R137). -/
theorem ea_ok (m : MemOp) (s : State) : ∃ a s', ea m s = .ok a s' ∧ (s.modCore m.update).ReadEffect s' := by
  cases m with
  | dir a => exact ⟨_, _, rfl, by simpa using State.ReadEffect.refl s⟩
  | ext a => exact ⟨_, _, rfl, by simpa using State.ReadEffect.refl s⟩
  | idx p =>
    cases hp : p.isIndirect with
    | false => exact ⟨_, _, indexedEA_direct hp s, State.ReadEffect.refl _⟩
    | true =>
      obtain ⟨a, s', h, e⟩ := memRead16_ok (p.pointer s.core) (s.modCore p.update)
      exact ⟨a, s', (indexedEA_indirect hp s).trans h, e⟩

theorem operand8_ok (o : Src8) (s : State) :
    ∃ v s', operand8 o s = .ok v s' ∧ (s.modCore o.update).ReadEffect s' := by
  cases o with
  | imm v => exact ⟨_, _, rfl, by simpa using State.ReadEffect.refl s⟩
  | mem m =>
    obtain ⟨a, s1, h1, e1⟩ := ea_ok m s
    obtain ⟨v, s2, h2, e2⟩ := memRead8_ok a s1
    exact ⟨v, s2, by rw [operand8, op_bind_ok h1, h2], e1.trans e2⟩

theorem operand16_ok (o : Src16) (s : State) :
    ∃ v s', operand16 o s = .ok v s' ∧ (s.modCore o.update).ReadEffect s' := by
  cases o with
  | imm v => exact ⟨_, _, rfl, by simpa using State.ReadEffect.refl s⟩
  | mem m =>
    obtain ⟨a, s1, h1, e1⟩ := ea_ok m s
    obtain ⟨v, s2, h2, e2⟩ := memRead16_ok a s1
    exact ⟨v, s2, by rw [operand16, op_bind_ok h1, h2], e1.trans e2⟩

/-! ### Outside the hardware window -/

@[simp] theorem State.modCore_peek (s : State) (f : Core → Core) (b : Board) (x : Nat) :
    (s.modCore f).peek b x = s.peek b x := State.peek_congr (by simp) (by simp) (by simp) (by simp) x

@[simp] theorem State.tick_peek (s : State) (n : Nat) (b : Board) (x : Nat) : (s.tick n).peek b x = s.peek b x :=
  State.peek_congr (by simp) (by simp) (by simp) (by simp) x

@[simp] theorem State.modCore_at (s : State) (f : Core → Core) (a : Word) : (s.modCore f).at a = s.at a := by
  simp [State.at]

@[simp] theorem State.modCore_at16 (s : State) (f : Core → Core) (a : Word) : (s.modCore f).at16 a = s.at16 a := by
  simp [State.at16]

@[simp] theorem State.modCore_myCfg (s : State) (f : Core → Core) : (s.modCore f).myCfg = s.myCfg := by
  simp [State.myCfg]

theorem ea_plain {m : MemOp} {s : State} (h : s.plainPointer m = true) :
    ea m s = .ok (s.address m) (s.modCore m.update) := by
  cases m with
  | dir a => simp [ea, State.address]
  | ext a => simp [ea, State.address]
  | idx p =>
    cases hp : p.isIndirect with
    | false =>
      rw [ea, indexedEA_direct hp]
      simp only [State.address, hp]
      rfl
    | true =>
      simp only [State.plainPointer, hp, if_true, Bool.and_eq_true] at h
      rw [ea, indexedEA_indirect hp, memRead16_plain (by simpa using h.1) (by simpa using h.2)]
      simp only [State.address, hp, if_true, State.modCore_at16]
      rfl

theorem operand8_plain {o : Src8} {s : State} (h : s.plain8 o = true) :
    operand8 o s = .ok (s.value8 o) (s.modCore o.update) := by
  cases o with
  | imm v => simp [operand8, State.value8]
  | mem m =>
    simp only [State.plain8, Bool.and_eq_true] at h
    rw [operand8, op_bind_ok (ea_plain h.1), memRead8_plain (by simpa using h.2)]
    simp only [State.value8, State.modCore_at]
    rfl

theorem operand16_plain {o : Src16} {s : State} (h : s.plain16 o = true) :
    operand16 o s = .ok (s.value16 o) (s.modCore o.update) := by
  cases o with
  | imm v => simp [operand16, State.value16]
  | mem m =>
    simp only [State.plain16, Bool.and_eq_true] at h
    rw [operand16, op_bind_ok (ea_plain h.1.1), memRead16_plain (by simpa using h.1.2) (by simpa using h.2)]
    simp only [State.value16, State.modCore_at16]
    rfl

end Sys2Proof.Machine
end

