-- ==== Sys2Proof/Laws/Write.lean ====
section
/-! SUPPORT. What a write by the stepping core leaves as it is. -/

namespace Sys2Proof.Machine

theorem State.WriteEffect.refl (s : State) : s.WriteEffect s where
  cfg := rfl
  lock := rfl
  host := rfl
  ret := rfl
  soundCarry := rfl
  firqHackCounter := rfl
  boardTicks := rfl
  zeroCross := ⟨rfl, rfl, rfl⟩
  irqCounter := rfl
  expired := rfl
  cores _ := .refl _
  other _ _ := ⟨rfl, rfl, rfl⟩

theorem State.WriteEffect.active {s t : State} (h : s.WriteEffect t) : t.active = s.active := by
  unfold State.active; rw [h.lock]

theorem State.WriteEffect.trans {s t u : State} (h : s.WriteEffect t) (k : t.WriteEffect u) : s.WriteEffect u where
  cfg := k.cfg.trans h.cfg
  lock := k.lock.trans h.lock
  host := k.host.trans h.host
  ret := k.ret.trans h.ret
  soundCarry := k.soundCarry.trans h.soundCarry
  firqHackCounter := k.firqHackCounter.trans h.firqHackCounter
  boardTicks := k.boardTicks.trans h.boardTicks
  zeroCross := ⟨k.zeroCross.1.trans h.zeroCross.1, k.zeroCross.2.1.trans h.zeroCross.2.1,
    k.zeroCross.2.2.trans h.zeroCross.2.2⟩
  irqCounter := k.irqCounter.trans h.irqCounter
  expired := k.expired.trans h.expired
  cores b := (h.cores b).trans (k.cores b)
  other b hb := by
    have h1 := h.other b hb
    have h2 := k.other b (by rw [h.active]; exact hb)
    exact ⟨h2.1.trans h1.1, h2.2.1.trans h1.2.1, h2.2.2.trans h1.2.2⟩

theorem State.writeEffect_setRam (s : State) (off : Nat) (v : Byte) : s.WriteEffect (s.setRam s.active off v) := by
  refine ⟨?_, ?_, ?_, ?_, ?_, ?_, ?_, ?_, ?_, ?_, fun b => ?_, fun b hb => ?_⟩
  all_goals simp
  · exact .refl _
  · exact State.setRam_bd_ram_other _ _ _ _ hb

theorem State.writeEffect_setShadow (s : State) (off : Nat) (v : Byte) :
    s.WriteEffect (s.setShadow s.active off v) := by
  refine ⟨?_, ?_, ?_, ?_, ?_, ?_, ?_, ?_, ?_, ?_, fun b => ?_, fun b hb => ?_⟩
  all_goals simp
  · exact .refl _
  · exact State.setShadow_bd_hwShadow_other _ _ _ _ hb

theorem State.writeEffect_setBank (s : State) (i : Nat) : s.WriteEffect (s.setBank s.active i) := by
  refine ⟨?_, ?_, ?_, ?_, ?_, ?_, ?_, ?_, ?_, ?_, fun b => ?_, fun b hb => ?_⟩
  all_goals simp
  · exact .refl _
  · exact State.setBank_bd_bank_other _ _ _ hb

/-- The controller after a watchdog service. -/
theorem State.writeEffect_service (s : State) (n : Nat) : s.WriteEffect { s with ctl := s.ctl.service n } := by
  refine ⟨rfl, rfl, rfl, rfl, rfl, rfl, rfl, ⟨rfl, rfl, rfl⟩, rfl, rfl, fun b => ?_, fun b _ => ?_⟩
  · cases b <;> exact .refl _
  · cases b <;> exact ⟨rfl, rfl, rfl⟩

theorem State.writeEffect_writeLatch (s : State) (v : Byte) : s.WriteEffect (s.writeLatch v) := by
  refine ⟨rfl, rfl, rfl, rfl, rfl, rfl, rfl, ⟨rfl, rfl, rfl⟩, rfl, rfl, fun b => ?_, fun b _ => ?_⟩
  · cases b
    · exact .refl _
    · exact Core.sameButLines_irq _
  · cases b <;> exact ⟨rfl, rfl, rfl⟩

/-- The lines, the record and the history of the devices. -/
theorem State.writeEffect_devEffects (s : State) (es : List DevEffect) : s.WriteEffect (s.devEffects es) := by
  induction es generalizing s with
  | nil => exact .refl _
  | cons e es ih =>
    refine State.WriteEffect.trans ?_ (ih (s.devEffect e))
    cases e with
    | periodicIrqEnable on =>
      refine ⟨rfl, rfl, rfl, rfl, rfl, rfl, rfl, ⟨rfl, rfl, rfl⟩, rfl, rfl, fun b => ?_, fun b _ => ?_⟩
      · cases b <;> exact .refl _
      · cases b <;> exact ⟨rfl, rfl, rfl⟩
    | irq b =>
      cases b
      all_goals
        refine ⟨rfl, rfl, rfl, rfl, rfl, rfl, rfl, ⟨rfl, rfl, rfl⟩, rfl, rfl, fun b => ?_, fun b _ => ?_⟩
        · cases b <;> first | exact .refl _ | exact Core.sameButLines_irq _
        · cases b <;> exact ⟨rfl, rfl, rfl⟩
    | firq b =>
      cases b
      all_goals
        refine ⟨rfl, rfl, rfl, rfl, rfl, rfl, rfl, ⟨rfl, rfl, rfl⟩, rfl, rfl, fun b => ?_, fun b _ => ?_⟩
        · cases b <;> first | exact .refl _ | exact Core.sameButLines_firq _
        · cases b <;> exact ⟨rfl, rfl, rfl⟩

theorem State.writeEffect_record (s : State) (e : DevEvent) : s.WriteEffect (s.record e) := by
  refine ⟨rfl, rfl, rfl, rfl, rfl, rfl, rfl, ⟨rfl, rfl, rfl⟩, rfl, rfl, fun b => ?_, fun b _ => ?_⟩
  · cases b <;> exact .refl _
  · cases b <;> exact ⟨rfl, rfl, rfl⟩

theorem State.writeEffect_report (s : State) (b : Board) (off : Nat) (k : AccessKind) :
    s.WriteEffect (s.report b off k) := by
  refine ⟨rfl, rfl, rfl, rfl, rfl, rfl, rfl, ⟨rfl, rfl, rfl⟩, rfl, rfl, fun b => ?_, fun b _ => ?_⟩
  · cases b <;> exact .refl _
  · cases b <;> exact ⟨rfl, rfl, rfl⟩

theorem State.writeEffect_fatal (s : State) (f : Option FatalCond) : s.WriteEffect { s with fatal := f } := by
  refine ⟨rfl, rfl, rfl, rfl, rfl, rfl, rfl, ⟨rfl, rfl, rfl⟩, rfl, rfl, fun b => ?_, fun b _ => ?_⟩
  · cases b <;> exact .refl _
  · cases b <;> exact ⟨rfl, rfl, rfl⟩

theorem State.writeEffect_devCall (s : State) (e : DevEvent) : s.WriteEffect (s.devCall e) :=
  (s.writeEffect_record e).trans (State.writeEffect_devEffects _ _)

theorem State.writeEffect_portWrite (s : State) (b : Board) (off : Nat) (v : Byte) :
    s.WriteEffect (s.portWrite b off v) := by
  unfold State.portWrite
  split
  · split
    · exact s.writeEffect_devCall _
    · exact (s.writeEffect_devCall _).trans (State.writeEffect_report _ _ _ _)
  · exact s.writeEffect_report _ _ _

/-- The state an operation leaves. -/
def after {α : Type} (r : EStateM.Result Unit State α) : State :=
  match r with
  | .ok _ s => s
  | .error _ s => s

/-- A write by the stepping core keeps what `WriteEffect` names, also when it ends in `BankError`. -/
theorem busWrite_effect (a : Nat) (v : Byte) (s : State) : s.WriteEffect (after (busWrite s.active a v s)) := by
  unfold busWrite
  split
  · exact s.writeEffect_setRam _ _
  · rename_i off _
    unfold hwWrite
    refine State.WriteEffect.trans (s.writeEffect_setShadow off v) ?_
    dsimp only
    split
    · unfold selectBank
      split
      · simpa [after] using State.writeEffect_setBank (s.setShadow s.active off v) _
      · exact State.writeEffect_fatal _ _
    · split
      · exact State.writeEffect_service _ _
      · split
        · exact State.writeEffect_writeLatch _ _
        · exact State.writeEffect_portWrite _ _ _ _
  · exact .refl _
  · exact State.writeEffect_fatal _ _

theorem State.stored_eq_after (s : State) (a : Word) (v : Byte) :
    s.stored a v = after (busWrite s.active a.toNat v s) := by
  unfold State.stored memWrite8 after
  split <;> simp_all

theorem State.stored_effect (s : State) (a : Word) (v : Byte) : s.WriteEffect (s.stored a v) := by
  rw [State.stored_eq_after]
  exact busWrite_effect _ _ _

theorem State.WriteEffect.core {s t : State} (h : s.WriteEffect t) : s.core.SameButLines t.core := by
  unfold State.core; rw [h.active]; exact h.cores _

@[simp] theorem State.stored_cfg (s : State) (a : Word) (v : Byte) : (s.stored a v).cfg = s.cfg :=
  (s.stored_effect a v).cfg

@[simp] theorem State.stored_active (s : State) (a : Word) (v : Byte) : (s.stored a v).active = s.active :=
  (s.stored_effect a v).active

@[simp] theorem State.stored_myCfg (s : State) (a : Word) (v : Byte) : (s.stored a v).myCfg = s.myCfg := by
  simp [State.myCfg]

/-- A write into RAM stores the byte, and nothing else happens (20_memory.md R63, R77). -/
theorem State.stored_ram {s : State} {a : Word} (h : a.toNat < s.myCfg.ramEnd) (v : Byte) :
    s.stored a v = s.setRam s.active a.toNat v := by
  have hd := decodeAddr_ram.mpr ⟨a.isLt, h, rfl⟩
  unfold State.stored memWrite8 busWrite
  rw [show s.cfg.board s.active = s.myCfg from rfl, hd]

/-- Two cores that differ in the lines only have the same registers. -/
theorem Core.SameButLines.regs {c d : Core} (h : c.SameButLines d) :
    d.a = c.a ∧ d.b = c.b ∧ d.x = c.x ∧ d.y = c.y ∧ d.u = c.u ∧ d.s = c.s ∧ d.pc = c.pc ∧ d.dp = c.dp := by
  obtain ⟨_, _, _, _, _, _, rfl⟩ := h
  exact ⟨rfl, rfl, rfl, rfl, rfl, rfl, rfl, rfl⟩

theorem Core.SameButLines.sp {c d : Core} (h : c.SameButLines d) (p : StackPtr) : d.sp p = c.sp p := by
  obtain ⟨_, _, _, _, _, _, rfl⟩ := h
  cases p <;> rfl

theorem Core.SameButLines.acc {c d : Core} (h : c.SameButLines d) (r : Acc) : d.acc r = c.acc r := by
  obtain ⟨_, _, _, _, _, _, rfl⟩ := h
  cases r <;> rfl

theorem Core.SameButLines.get16 {c d : Core} (h : c.SameButLines d) (r : Reg16) : d.get16 r = c.get16 r := by
  obtain ⟨_, _, _, _, _, _, rfl⟩ := h
  cases r <;> rfl

theorem Core.SameButLines.carry {c d : Core} (h : c.SameButLines d) : d.cc.c = c.cc.c := by
  obtain ⟨_, _, _, _, _, _, rfl⟩ := h
  rfl

end Sys2Proof.Machine
end

