-- ==== Sys2Proof/Laws/Frame.lean ====
section
/-! SUPPORT. Every byte but the one written reads as before: the parts of the frame of a bus write. -/

namespace Sys2Proof.Machine

/-- An address of the hardware window decodes to its register (20_memory.md R75). -/
theorem decodeAddr_hwWindow {c : BoardCfg} {a : Nat} (h0 : a < 0x10000) (h1 : c.ramEnd ≤ a) (h2 : a < c.hwEnd) :
    decodeAddr c a = some ⟨.hardware, a⟩ := by
  unfold decodeAddr; rw [if_pos h0, if_neg (by omega), if_pos h2]

/-- A write of the hardware window is the register write. -/
theorem memWrite8_hw {s : State} {a : Word} (v : Byte) (h1 : s.myCfg.ramEnd ≤ a.toNat) (h2 : a.toNat < s.myCfg.hwEnd) :
    memWrite8 a v s = hwWrite s.active a.toNat v s := by
  unfold memWrite8 busWrite; rw [show s.cfg.board s.active = s.myCfg from rfl, decodeAddr_hwWindow a.isLt h1 h2]

/-- A read of the hardware window is the register read. -/
theorem memRead8_hw {s : State} {a : Word} (h1 : s.myCfg.ramEnd ≤ a.toNat) (h2 : a.toNat < s.myCfg.hwEnd) :
    memRead8 a s = .ok (s.hwRead s.active a.toNat).1 (s.hwRead s.active a.toNat).2 := by
  unfold memRead8 busRead; rw [show s.cfg.board s.active = s.myCfg from rfl, decodeAddr_hwWindow a.isLt h1 h2]

/-- Two states whose memories and banks are the same. -/
def SameMems (s t : State) : Prop :=
  ∀ b, (t.bd b).ram = (s.bd b).ram ∧ (t.bd b).hwShadow = (s.bd b).hwShadow ∧ (t.bd b).bank = (s.bd b).bank

theorem SameMems.trans {s t u : State} (h : SameMems s t) (k : SameMems t u) : SameMems s u := fun b =>
  ⟨(k b).1.trans (h b).1, (k b).2.1.trans (h b).2.1, (k b).2.2.trans (h b).2.2⟩

theorem State.ReadEffect.sameMems {s t : State} (h : s.ReadEffect t) : SameMems s t := fun b =>
  ⟨h.ram b, h.hwShadow b, h.bank b⟩

theorem sameMems_portWrite (s : State) (b off v) : SameMems s (s.portWrite b off v) := by
  unfold State.portWrite
  split
  · split
    · exact State.ReadEffect.sameMems (s.readEffect_devCall _)
    · exact State.ReadEffect.sameMems ((s.readEffect_devCall _).trans (State.readEffect_report _ _ _ _))
  · exact State.ReadEffect.sameMems (s.readEffect_report _ _ _)

/-- What a register write leaves of the memories: its byte in the shadow, and the bank when it selects one. -/
theorem hwWrite_mems (s : State) (off : Nat) (v : Byte) :
    SameMems (s.setShadow s.active off v) (after (hwWrite s.active off v s)) ∨
    (off = s.myCfg.bankSelect ∧ ∃ i, after (hwWrite s.active off v s) = (s.setShadow s.active off v).setBank s.active i) := by
  unfold hwWrite
  dsimp only
  split
  · next h =>
    unfold selectBank
    split
    · exact .inr ⟨by simpa [State.myCfg] using h, _, rfl⟩
    · exact .inl fun b => by cases b <;> exact ⟨rfl, rfl, rfl⟩
  · split
    · exact .inl fun b => by cases b <;> exact ⟨rfl, rfl, rfl⟩
    · split
      · exact .inl (State.ReadEffect.sameMems (s := {s.setShadow s.active off v with latchByte := v, latchAvail := true}) (State.readEffect_irq _ .sound))
      · exact .inl (sameMems_portWrite _ _ _ _)

/-- Where the memories are the same, every byte reads the same. -/
theorem SameMems.peek {s t : State} (h : SameMems s t) (hc : t.cfg = s.cfg) (b : Board) (x :
    Nat) : t.peek b x = s.peek b x :=
  State.peek_congr hc (h b).1 (h b).2.1 (h b).2.2 x

/-- A byte recorded in the shadow changes what its own register holds and no other byte. -/
theorem State.peek_setShadow_other (s : State) (b' b : Board) (off x : Nat) (v : Byte) (h : b = b' → x ≠ off) :
    (s.setShadow b' off v).peek b x = s.peek b x := by
  by_cases hb : b = b'
  · subst hb
    unfold State.peek State.bankedByte
    simp only [State.setShadow_cfg, State.setShadow_bd_ram, State.setShadow_bd_bank, State.setShadow_bd_hwShadow]
    split <;> try rfl
    next o ho =>
    have : o = x := (decodeAddr_hardware.mp ho).2.2
    subst this
    exact Memory.read_write_other _ (h rfl) v
  · exact State.peek_congr (by simp) (by simp) (State.setShadow_bd_hwShadow_other _ _ _ _ hb) (by simp) x

/-- A RAM byte replaced changes that byte and no other. -/
theorem State.peek_setRam_other (s : State) (b' b : Board) (off x : Nat) (v : Byte) (h : b = b' → x ≠ off) :
    (s.setRam b' off v).peek b x = s.peek b x := by
  by_cases hb : b = b'
  · subst hb
    unfold State.peek State.bankedByte
    simp only [State.setRam_cfg, State.setRam_bd_ram, State.setRam_bd_bank, State.setRam_bd_hwShadow]
    split <;> try rfl
    next o ho =>
    have : o = x := (decodeAddr_ram.mp ho).2.2
    subst this
    exact Memory.read_write_other _ (h rfl) v
  · exact State.peek_congr (by simp) (State.setRam_bd_ram_other _ _ _ _ hb) (by simp) (by simp) x

theorem banked_of_decodeAddr {c : BoardCfg} {x off : Nat}
    (h : decodeAddr c x = some ⟨.bankswitched, off⟩) : c.banked x = true := by
  unfold decodeAddr at h
  unfold BoardCfg.banked
  simp
  split at h
  · split at h
    · simp at h
    · split at h
      · simp at h
      · split at h
        · omega
        · simp at h
  · simp at h

/-- A bank selected changes nothing outside the banked window of its board. -/
theorem State.peek_setBank_other (s : State) (b' b : Board) (i x : Nat)
    (h : b = b' → (s.cfg.board b).banked x = false) :
    (s.setBank b' i).peek b x = s.peek b x := by
  by_cases hb : b = b'
  · subst hb
    unfold State.peek State.bankedByte
    simp only [State.setBank_cfg, State.setBank_bd_ram, State.setBank_bd_hwShadow]
    split <;> try rfl
    next o ho => have := banked_of_decodeAddr ho; have h2 := h rfl; rw [this] at h2; cases h2
  · exact State.peek_congr (by simp) (by simp) (by simp) (State.setBank_bd_bank_other _ _ _ hb) x

/-- One frame after another. -/
theorem State.KeepsBut.trans {s t u : State} {xs ys : List Word} (h : s.KeepsBut t xs) (k : t.KeepsBut u ys)
    (hc : t.cfg = s.cfg) (hl : t.active = s.active) : s.KeepsBut u (xs ++ ys) := by
  intro b x hb
  have hmy : t.myCfg = s.myCfg := by unfold State.myCfg; rw [hc, hl]
  rw [k b x ?_, h b x ?_]
  · intro he
    obtain ⟨h1, h2⟩ := hb he
    exact ⟨fun a ha => h1 a (by simp [ha]), fun hbk a ha => h2 hbk a (by simp [ha])⟩
  · intro he
    rw [hl] at he
    obtain ⟨h1, h2⟩ := hb he
    rw [hmy]
    exact ⟨fun a ha => h1 a (by simp [ha]), fun hbk a ha => h2 hbk a (by simp [ha])⟩

theorem State.KeepsBut.of_peek {s t : State} (h : ∀ b x, t.peek b x = s.peek b x) (as : List Word) : s.KeepsBut t as :=
  fun b x _ => h b x

end Sys2Proof.Machine
end

