-- ==== Sys2Proof/Laws/Keeps.lean ====
section
/-! SUPPORT. Whatever every part of a core's step keeps, the whole step keeps, said of two runs side by side: a relation
between the states of two machines that holds across one change of the stepping core, one bus read, one bus write and a
fatal condition holds across `exec` and across `coreStep`; one that need not hold across a write holds across the
instructions that store nothing. `StepRel` is the form for one run, a relation between the states before and after. -/

namespace Sys2Proof.Machine

/-- A change of a core that neither sets its NMI latch, nor arms its NMI where there is none, nor counts a cycle. -/
def CoreChange (hasNmi : Bool) (f : Core → Core) : Prop :=
  ∀ c, ((f c).pendingNMI = true → c.pendingNMI = true) ∧ ((f c).nmiArmed = true → c.nmiArmed = true ∨ hasNmi = true) ∧
    (f c).tickCount = c.tickCount

/-- Two results of one operation: the same value and related states. -/
def ResultRel (Q : State → State → Prop) {α : Type} : EStateM.Result Unit State α → EStateM.Result Unit State α → Prop
  | .ok x s, .ok y t => y = x ∧ Q s t
  | .error _ s, .error _ t => Q s t
  | _, _ => False

/-- Two outcomes of one step: related next states. -/
def OutRel (Q : State → State → Prop) (o o' : Out) : Prop := ∃ s t, o = .next s ∧ o' = .next t ∧ Q s t

/-- A relation between two machines that holds across every part of a core's step but the count of its cycles, bus writes
included when `w` says so. -/
structure StepSim (w : Bool) (Q : State → State → Prop) : Prop where
  same : ∀ {s t}, Q s t → t.core = s.core ∧ t.cfg = s.cfg ∧ t.active = s.active
  core : ∀ {s t} f, CoreChange s.cfg.hasNmi f → Q s t → Q (s.modCore f) (t.modCore f)
  read : ∀ {s t} a, a < 0x10000 → Q s t → ResultRel Q (busRead s.active a s) (busRead t.active a t)
  write : w = true → ∀ {s t} a v, Q s t → ResultRel Q (busWrite s.active a v s) (busWrite t.active a v t)
  fatal : ∀ {s t} f, Q s t → Q { s with fatal := some f } { t with fatal := some f }

/-- The relation holds across the operation. -/
structure Op.Sim {α : Type} (Q : State → State → Prop) (m : Op α) : Prop where
  run : ∀ {s t}, Q s t → ResultRel Q (m s) (m t)

variable {w : Bool} {Q : State → State → Prop}

theorem Op.Sim.pure (_ : StepSim w Q) {α : Type} (x : α) : Op.Sim Q (Pure.pure x : Op α) := ⟨fun h => ⟨rfl, h⟩⟩

theorem Op.Sim.bind (_ : StepSim w Q) {α β : Type} {m : Op α} {k : α → Op β} (hm : Op.Sim Q m)
    (hk : ∀ x, Op.Sim Q (k x)) : Op.Sim Q (m >>= k) := by
  refine ⟨fun {s t} h => ?_⟩
  have h1 := hm.run h
  rw [op_bind, op_bind]
  cases hr : m s with
  | ok x u =>
    cases hr' : m t with
    | ok y v =>
      rw [hr, hr'] at h1
      rw [show y = x from h1.1]
      exact (hk x).run h1.2
    | error e v => rw [hr, hr'] at h1; exact h1.elim
  | error e u =>
    cases hr' : m t with
    | ok y v => rw [hr, hr'] at h1; exact h1.elim
    | error e' v => rw [hr, hr'] at h1; exact h1

theorem Op.Sim.cond (hS : StepSim w Q) {m : Op Unit} {p : Prop} [Decidable p] (hm : Op.Sim Q m) :
    Op.Sim Q (if p then m else Pure.pure ()) := by
  split
  · exact hm
  · exact .pure hS ()

theorem Op.Sim.getCore (hS : StepSim w Q) : Op.Sim Q Machine.getCore := ⟨fun h => ⟨(hS.same h).1, h⟩⟩

theorem Op.Sim.modify (hS : StepSim w Q) {f : Core → Core} (hf : ∀ b, CoreChange b f) :
    Op.Sim Q (modifyCore f) := ⟨fun h => ⟨rfl, hS.core f (hf _) h⟩⟩

theorem Op.Sim.read8 (hS : StepSim w Q) (a : Word) : Op.Sim Q (memRead8 a) := ⟨fun h => hS.read _ a.isLt h⟩

theorem Op.Sim.write8 (hS : StepSim true Q) (a : Word) (v : Byte) : Op.Sim Q (memWrite8 a v) :=
  ⟨fun h => hS.write rfl _ v h⟩

theorem Op.Sim.read16 (hS : StepSim w Q) (a : Word) : Op.Sim Q (memRead16 a) :=
  .bind hS (.read8 hS a) fun _ => .bind hS (.read8 hS _) fun _ => .pure hS _

theorem Op.Sim.write16 (hS : StepSim true Q) (a v : Word) : Op.Sim Q (memWrite16 a v) :=
  .bind hS (.write8 hS a _) fun _ => .write8 hS _ _

theorem Op.Sim.raise (hS : StepSim w Q) {α : Type} (f : Board → FatalCond) :
    Op.Sim Q (fun s => (Machine.raise (f s.active) : Op α) s) := ⟨fun {s t} h => by
  show Q _ _
  rw [(hS.same h).2.2]
  exact hS.fatal _ h⟩

/-! ### Changes of a core -/

theorem coreChange_same {f : Core → Core} (h : ∀ c,
    (f c).pendingNMI = c.pendingNMI ∧ (f c).nmiArmed = c.nmiArmed ∧ (f c).tickCount = c.tickCount)
    (b : Bool) : CoreChange b f := fun c => ⟨fun hp => (h c).1 ▸ hp, fun ha => .inl ((h c).2.1 ▸ ha), (h c).2.2⟩

/-- A change of registers and flags. -/
theorem Op.Sim.regs (hS : StepSim w Q) {f : Core → Core}
    (h : ∀ c, (f c).pendingNMI = c.pendingNMI ∧ (f c).nmiArmed = c.nmiArmed ∧ (f c).tickCount = c.tickCount) :
      Op.Sim Q (modifyCore f) :=
  .modify hS (coreChange_same h)

/-! ### The named operations -/

theorem sim_fetch8 (hS : StepSim w Q) : Op.Sim Q fetch8 :=
  .bind hS (.getCore hS) fun _ => .bind hS (.read8 hS _) fun _ =>
    .bind hS (.regs hS fun _ => ⟨rfl, rfl, rfl⟩) fun _ => .pure hS _

theorem sim_push8 (hS : StepSim true Q) (p : StackPtr) (v : Byte) : Op.Sim Q (push8 p v) :=
  .bind hS (.regs hS fun c => by cases p <;> exact ⟨rfl, rfl, rfl⟩) fun _ =>
    .bind hS (.getCore hS) fun _ => .write8 hS _ _

theorem sim_push16 (hS : StepSim true Q) (p : StackPtr) (v : Word) : Op.Sim Q (push16 p v) :=
  .bind hS (sim_push8 hS p _) fun _ => sim_push8 hS p _

theorem sim_pull8 (hS : StepSim w Q) (p : StackPtr) : Op.Sim Q (pull8 p) :=
  .bind hS (.getCore hS) fun _ => .bind hS (.read8 hS _) fun _ =>
    .bind hS (.regs hS fun c => by cases p <;> exact ⟨rfl, rfl, rfl⟩) fun _ => .pure hS _

theorem sim_pull16 (hS : StepSim w Q) (p : StackPtr) : Op.Sim Q (pull16 p) :=
  .bind hS (sim_pull8 hS p) fun _ => .bind hS (sim_pull8 hS p) fun _ => .pure hS _

theorem sim_armNmi (hS : StepSim w Q) : Op.Sim Q armNmi := by
  refine ⟨fun {s t} h => ⟨rfl, ?_⟩⟩
  rw [(hS.same h).2.1]
  exact hS.core (fun c => { c with nmiArmed := c.nmiArmed || s.cfg.hasNmi })
    (fun c => ⟨id, fun h => by simpa using h, rfl⟩) h

theorem sim_loadReg (hS : StepSim w Q) (r : Reg16) (v : Word) : Op.Sim Q (loadReg r v) := by
  refine .bind hS (.regs hS fun c => by cases r <;> exact ⟨rfl, rfl, rfl⟩) fun _ => ?_
  cases r
  case s => exact sim_armNmi hS
  all_goals exact .pure hS ()

theorem sim_pushAll (hS : StepSim true Q) : Op.Sim Q pushAll :=
  .bind hS (.getCore hS) fun _ => .bind hS (sim_push16 hS _ _) fun _ => .bind hS (sim_push16 hS _ _) fun _ =>
    .bind hS (sim_push16 hS _ _) fun _ => .bind hS (sim_push16 hS _ _) fun _ =>
      .bind hS (sim_push8 hS _ _) fun _ => .bind hS (sim_push8 hS _ _) fun _ =>
        .bind hS (sim_push8 hS _ _) fun _ => sim_push8 hS _ _

theorem sim_stackContext (hS : StepSim true Q) (k : Entry) : Op.Sim Q (stackContext k) := by
  refine .bind hS (.regs hS fun _ => ⟨rfl, rfl, rfl⟩) fun _ => ?_
  split
  · exact sim_pushAll hS
  · exact .bind hS (.getCore hS) fun _ => .bind hS (sim_push16 hS _ _) fun _ => sim_push8 hS _ _

theorem sim_takeVector (hS : StepSim w Q) (k : Entry) : Op.Sim Q (takeVector k) := by
  refine .bind hS (.modify hS fun b c => ?_) fun _ => .bind hS (.read16 hS _) fun _ =>
    .regs hS fun c => by cases k <;> exact ⟨rfl, rfl, rfl⟩
  cases k
  case nmi => exact ⟨nofun, .inl, rfl⟩
  all_goals exact ⟨id, .inl, rfl⟩

theorem sim_enter (hS : StepSim true Q) (k : Entry) : Op.Sim Q (enter k) :=
  .bind hS (sim_stackContext hS k) fun _ => sim_takeVector hS k

theorem sim_returnFromInterrupt (hS : StepSim w Q) : Op.Sim Q returnFromInterrupt := by
  refine .bind hS (sim_pull8 hS _) fun _ => .bind hS (.regs hS fun _ => ⟨rfl, rfl, rfl⟩) fun _ => ?_
  have hpc : Op.Sim Q (do
      let pc ← pull16 .s
      modifyCore fun c => { c with pc := pc }) :=
    .bind hS (sim_pull16 hS _) fun _ => .regs hS fun _ => ⟨rfl, rfl, rfl⟩
  split
  · exact .bind hS (sim_pull8 hS _) fun _ => .bind hS (sim_pull8 hS _) fun _ =>
      .bind hS (sim_pull8 hS _) fun _ => .bind hS (sim_pull16 hS _) fun _ =>
        .bind hS (sim_pull16 hS _) fun _ => .bind hS (sim_pull16 hS _) fun _ =>
          .bind hS (.regs hS fun _ => ⟨rfl, rfl, rfl⟩) fun _ => hpc
  · exact hpc

/-! ### Operands -/

theorem sim_indexedEA (hS : StepSim w Q) (p : Indexed) : Op.Sim Q (indexedEA p) := by
  refine .bind hS (.getCore hS) fun _ => .bind hS (.regs hS fun c => ?_) fun _ => ?_
  · cases p with
    | inc1 r => cases r <;> exact ⟨rfl, rfl, rfl⟩
    | inc2 r => cases r <;> exact ⟨rfl, rfl, rfl⟩
    | dec1 r => cases r <;> exact ⟨rfl, rfl, rfl⟩
    | dec2 r => cases r <;> exact ⟨rfl, rfl, rfl⟩
    | _ => exact ⟨rfl, rfl, rfl⟩
  · unfold indirect
    split
    · exact .read16 hS _
    · exact .pure hS _

theorem sim_ea (hS : StepSim w Q) (m : MemOp) : Op.Sim Q (ea m) := by
  cases m with
  | dir a => exact .bind hS (.getCore hS) fun _ => .pure hS _
  | idx p => exact sim_indexedEA hS p
  | ext a => exact .pure hS _

theorem sim_operand8 (hS : StepSim w Q) (o : Src8) : Op.Sim Q (operand8 o) := by
  cases o with
  | imm v => exact .pure hS _
  | mem m => exact .bind hS (sim_ea hS m) fun _ => .read8 hS _

theorem sim_operand16 (hS : StepSim w Q) (o : Src16) : Op.Sim Q (operand16 o) := by
  cases o with
  | imm v => exact .pure hS _
  | mem m => exact .bind hS (sim_ea hS m) fun _ => .read16 hS _

/-! ### The shared operations of the instructions -/

theorem sim_bin8 (hS : StepSim w Q) (o : Bin8) (r : Acc) (src : Src8) : Op.Sim Q (bin8 o r src) :=
  .bind hS (sim_operand8 hS src) fun _ => .regs hS fun c => by cases o <;> cases r <;> exact ⟨rfl, rfl, rfl⟩

theorem sim_un8Acc (hS : StepSim w Q) (o : Un8) (r : Acc) : Op.Sim Q (un8Acc o r) :=
  .regs hS fun c => by cases r <;> exact ⟨rfl, rfl, rfl⟩

theorem sim_un8Mem (hS : StepSim true Q) (o : Un8) (m : MemOp) : Op.Sim Q (un8Mem o m) := by
  refine .bind hS (sim_ea hS m) fun _ => .bind hS (.read8 hS _) fun _ =>
    .bind hS (.regs hS fun _ => ⟨rfl, rfl, rfl⟩) fun _ => .bind hS (.getCore hS) fun _ => ?_
  split
  · exact .bind hS (.write8 hS _ _) fun _ => .regs hS fun _ => ⟨rfl, rfl, rfl⟩
  · exact .regs hS fun _ => ⟨rfl, rfl, rfl⟩

theorem sim_tstMem (hS : StepSim w Q) (m : MemOp) : Op.Sim Q (un8Mem .tst m) :=
  .bind hS (sim_ea hS m) fun _ => .bind hS (.read8 hS _) fun _ => .bind hS (.regs hS fun _ => ⟨rfl, rfl, rfl⟩) fun _ =>
    .bind hS (.getCore hS) fun _ => .regs hS fun _ => ⟨rfl, rfl, rfl⟩

theorem sim_load16 (hS : StepSim w Q) (r : Wide) (src : Src16) : Op.Sim Q (load16 r src) :=
  .bind hS (sim_operand16 hS src) fun _ => .bind hS (sim_loadReg hS _ _) fun _ => .regs hS fun _ => ⟨rfl, rfl, rfl⟩

theorem sim_store8 (hS : StepSim true Q) (r : Acc) (m : MemOp) : Op.Sim Q (store8 r m) :=
  .bind hS (sim_ea hS m) fun _ => .bind hS (.getCore hS) fun _ => .bind hS (.write8 hS _ _) fun _ =>
    .regs hS fun _ => ⟨rfl, rfl, rfl⟩

theorem sim_store16 (hS : StepSim true Q) (r : Wide) (m : MemOp) : Op.Sim Q (store16 r m) :=
  .bind hS (sim_ea hS m) fun _ => .bind hS (.getCore hS) fun _ => .bind hS (.write16 hS _ _) fun _ =>
    .regs hS fun _ => ⟨rfl, rfl, rfl⟩

theorem sim_lea (hS : StepSim w Q) (r : IdxReg) (p : Indexed) : Op.Sim Q (lea r p) :=
  .bind hS (sim_indexedEA hS p) fun _ => .bind hS (sim_loadReg hS _ _) fun _ =>
    .regs hS fun c => by cases r <;> exact ⟨rfl, rfl, rfl⟩

theorem sim_addD (hS : StepSim w Q) (src : Src16) : Op.Sim Q (addD src) :=
  .bind hS (sim_operand16 hS src) fun _ => .regs hS fun _ => ⟨rfl, rfl, rfl⟩

theorem sim_subD (hS : StepSim w Q) (src : Src16) : Op.Sim Q (subD src) :=
  .bind hS (sim_operand16 hS src) fun _ => .regs hS fun _ => ⟨rfl, rfl, rfl⟩

theorem sim_cmp16 (hS : StepSim w Q) (r : Wide) (src : Src16) : Op.Sim Q (cmp16 r src) :=
  .bind hS (sim_operand16 hS src) fun _ => .regs hS fun _ => ⟨rfl, rfl, rfl⟩

theorem sim_raiseRegisterPair (hS : StepSim w Q) (op : Byte) (r0 r1 : Reg) :
    Op.Sim Q (raiseRegisterPair op r0 r1) :=
  .bind hS (.getCore hS) fun c => .raise hS fun b => .invalidOpcode b (c.pc - 2#16) [op, regPostbyte r0 r1]

theorem sim_transfer (hS : StepSim w Q) (r0 r1 : Reg) : Op.Sim Q (transfer r0 r1) := by
  cases r0 <;> cases r1
  · exact .bind hS (.getCore hS) fun _ => sim_loadReg hS _ _
  · exact sim_raiseRegisterPair hS _ _ _
  · exact sim_raiseRegisterPair hS _ _ _
  · rename_i q
    exact .regs hS fun c => by cases q <;> exact ⟨rfl, rfl, rfl⟩

theorem sim_exchange (hS : StepSim w Q) (r0 r1 : Reg) : Op.Sim Q (exchange r0 r1) := by
  cases r0 <;> cases r1
  · exact .bind hS (.getCore hS) fun _ => .bind hS (sim_loadReg hS _ _) fun _ => sim_loadReg hS _ _
  · exact sim_raiseRegisterPair hS _ _ _
  · exact sim_raiseRegisterPair hS _ _ _
  · rename_i p q
    exact .regs hS fun c => by cases p <;> cases q <;> exact ⟨rfl, rfl, rfl⟩

theorem sim_pushRegs (hS : StepSim true Q) (p : StackPtr) (m : Byte) : Op.Sim Q (pushRegs p m) := by
  have h8 (b : Bool) (v : Byte) {k : Op Unit} (hk : Op.Sim Q k) :
      Op.Sim Q (if b = true then (push8 p v >>= fun _ => k) else k) := by
    split
    · exact .bind hS (sim_push8 hS p v) fun _ => hk
    · exact hk
  have h16 (b : Bool) (v : Word) {k : Op Unit} (hk : Op.Sim Q k) :
      Op.Sim Q (if b = true then (push16 p v >>= fun _ => k) else k) := by
    split
    · exact .bind hS (sim_push16 hS p v) fun _ => hk
    · exact hk
  refine .bind hS (.getCore hS) fun c => h16 _ _ (h16 _ _ (h16 _ _ (h16 _ _ (h8 _ _ (h8 _ _ (h8 _ _ ?_))))))
  exact .cond hS (sim_push8 hS p _)

theorem sim_pullRegs (hS : StepSim w Q) (p : StackPtr) (m : Byte) : Op.Sim Q (pullRegs p m) := by
  have hb (b : Bool) {n k : Op Unit} (hn : Op.Sim Q n) (hk : Op.Sim Q k) :
      Op.Sim Q (if b = true then (n >>= fun _ => k) else k) := by
    split
    · exact .bind hS hn fun _ => hk
    · exact hk
  have h8 {f : Byte → Core → Core}
      (h : ∀ v c,
        (f v c).pendingNMI = c.pendingNMI ∧ (f v c).nmiArmed = c.nmiArmed ∧ (f v c).tickCount = c.tickCount) : Op.Sim Q (pullTo8 p f) :=
    .bind hS (sim_pull8 hS p) fun v => .regs hS (h v)
  have h16 {f : Word → Core → Core}
      (h : ∀ v c,
        (f v c).pendingNMI = c.pendingNMI ∧ (f v c).nmiArmed = c.nmiArmed ∧ (f v c).tickCount = c.tickCount) : Op.Sim Q (pullTo16 p f) :=
    .bind hS (sim_pull16 hS p) fun v => .regs hS (h v)
  unfold pullRegs
  refine hb _ (h8 fun _ _ => ⟨rfl, rfl, rfl⟩) (hb _ (h8 fun _ _ => ⟨rfl, rfl, rfl⟩)
    (hb _ (h8 fun _ _ => ⟨rfl, rfl, rfl⟩)
    (hb _ (h8 fun _ _ => ⟨rfl, rfl, rfl⟩) (hb _ (h16 fun _ _ => ⟨rfl, rfl, rfl⟩)
      (hb _ (h16 fun _ _ => ⟨rfl, rfl, rfl⟩) ?_)))))
  refine hb _ ?_ (.cond hS (h16 fun _ _ => ⟨rfl, rfl, rfl⟩))
  refine .bind hS (sim_pull16 hS p) fun v => ?_
  cases p <;> exact sim_loadReg hS _ _

theorem sim_branch (hS : StepSim w Q) (k : Cond) (o : Word) : Op.Sim Q (branch k o) :=
  .regs hS fun c => by split <;> exact ⟨rfl, rfl, rfl⟩

theorem sim_branchSub (hS : StepSim true Q) (o : Word) : Op.Sim Q (branchSub o) :=
  .bind hS (.getCore hS) fun _ => .bind hS (sim_push16 hS _ _) fun _ => .regs hS fun _ => ⟨rfl, rfl, rfl⟩

theorem sim_jump (hS : StepSim w Q) (m : MemOp) : Op.Sim Q (jump m) :=
  .bind hS (sim_ea hS m) fun _ => .regs hS fun _ => ⟨rfl, rfl, rfl⟩

theorem sim_jumpSub (hS : StepSim true Q) (m : MemOp) : Op.Sim Q (jumpSub m) :=
  .bind hS (sim_ea hS m) fun _ => .bind hS (.getCore hS) fun _ => .bind hS (sim_push16 hS _ _) fun _ =>
    .regs hS fun _ => ⟨rfl, rfl, rfl⟩

theorem sim_returnSub (hS : StepSim w Q) : Op.Sim Q returnSub :=
  .bind hS (sim_pull16 hS _) fun _ => .regs hS fun _ => ⟨rfl, rfl, rfl⟩

theorem sim_cwai (hS : StepSim true Q) (v : Byte) : Op.Sim Q (cwai v) :=
  .bind hS (.regs hS fun _ => ⟨rfl, rfl, rfl⟩) fun _ =>
    .bind hS (sim_pushAll hS) fun _ => .regs hS fun _ => ⟨rfl, rfl, rfl⟩

/-! ### A step -/

/-- A count of cycles that the configuration and the stepping core fix. -/
def SameCycles (f : State → Nat) : Prop := ∀ s t, t.core = s.core → t.cfg = s.cfg → f t = f s

theorem sameCycles_cfg {f : State → Nat} (h : ∀ s t : State, t.cfg = s.cfg → f t = f s) : SameCycles f :=
  fun s t _ hc => h s t hc

theorem sameCycles_long (k : Cond) : SameCycles (longAddend k) := by
  intro s t h hc
  unfold longAddend takenAddend
  rw [h, hc]

theorem sameCycles_rti : SameCycles rtiAddend := by
  intro s t h hc
  unfold rtiAddend
  rw [h, hc]

theorem sim_runOp (hS : StepSim w Q) (hT : ∀ {s t} n, Q s t → Q (s.tick n) (t.tick n)) {m : Op Unit} (hm : Op.Sim Q m)
    {cycles : State → Nat} (hc : SameCycles cycles) {s t : State} (h : Q s t) :
    OutRel Q (runOp cycles m s) (runOp cycles m t) := by
  have h1 := hm.run h
  unfold runOp
  cases hr : m s with
  | ok x u =>
    cases hr' : m t with
    | ok y v =>
      rw [hr, hr'] at h1
      have hq : Q u v := h1.2
      refine ⟨_, _, rfl, rfl, ?_⟩
      rw [hc u v (hS.same hq).1 (hS.same hq).2.1]
      exact hT _ hq
    | error e v => rw [hr, hr'] at h1; exact h1.elim
  | error e u =>
    cases hr' : m t with
    | ok y v => rw [hr, hr'] at h1; exact h1.elim
    | error e' v => rw [hr, hr'] at h1; exact ⟨_, _, rfl, rfl, h1⟩

theorem sim_perform (hS : StepSim w Q) (hT : ∀ {s t} n, Q s t → Q (s.tick n) (t.tick n)) {op : Nat} {ad : State → Nat}
    {m : Op Unit} (hm : Op.Sim Q m) (hc : SameCycles ad) {s t : State} (h : Q s t) :
    OutRel Q (perform op ad m s) (perform op ad m t) :=
  sim_runOp hS hT hm (fun s t h hcfg => by simp only [hc s t h hcfg, hcfg]) h

/-- What every part of a step keeps, every instruction keeps. -/
theorem sim_exec (hS : StepSim true Q) (hT : ∀ {s t} n, Q s t → Q (s.tick n) (t.tick n)) (i : Instr) {s t : State}
    (h : Q s t) : OutRel Q (exec i s) (exec i t) := by
  have hp {op : Nat} {ad : State → Nat} {m : Op Unit} (hm : Op.Sim Q m) (hc : SameCycles ad) :
      OutRel Q (perform op ad m s) (perform op ad m t) := sim_perform hS hT hm hc h
  refine Instr.byFamily (P := fun i => OutRel Q (exec i s) (exec i t)) ?_ ?_ ?_ ?_ ?_ ?_ ?_ ?_ ?_
    ?_ ?_ ?_ ?_ ?_ ?_ ?_ ?_ ?_ ?_ ?_ ?_ ?_ ?_ ?_ ?_ ?_ ?_ ?_ ?_ ?_ ?_ ?_ ?_ ?_ ?_ ?_ i
  · intro o r src; rw [exec_bin8, exec_bin8]
    exact hp (sim_bin8 hS _ _ _) (sameCycles_cfg fun _ _ h => by simp only [h])
  · intro r src; rw [exec_load16, exec_load16]
    exact hp (sim_load16 hS _ _) (sameCycles_cfg fun _ _ h => by simp only [h])
  · intro r src; rw [exec_cmp16, exec_cmp16]; exact hp (sim_cmp16 hS _ _) (sameCycles_cfg fun _ _ h => by simp only [h])
  · intro src; rw [exec_addD, exec_addD]; exact hp (sim_addD hS _) (sameCycles_cfg fun _ _ h => by simp only [h])
  · intro src; rw [exec_subD, exec_subD]; exact hp (sim_subD hS _) (sameCycles_cfg fun _ _ h => by simp only [h])
  · intro r m; rw [exec_store8, exec_store8]
    exact hp (sim_store8 hS _ _) (sameCycles_cfg fun _ _ h => by simp only [h])
  · intro r m; rw [exec_store16, exec_store16]
    exact hp (sim_store16 hS _ _) (sameCycles_cfg fun _ _ h => by simp only [h])
  · intro r p; rw [exec_lea, exec_lea]; exact hp (sim_lea hS _ _) (sameCycles_cfg fun _ _ h => by simp only [h])
  · intro o r; rw [exec_un8Acc, exec_un8Acc]; exact hp (sim_un8Acc hS _ _) (sameCycles_cfg fun _ _ _ => rfl)
  · intro o m; rw [exec_un8Mem, exec_un8Mem]
    exact hp (sim_un8Mem hS _ _) (sameCycles_cfg fun _ _ h => by simp only [h])
  · intro k o; rw [exec_branch, exec_branch]; exact hp (sim_branch hS _ _) (sameCycles_cfg fun _ _ _ => rfl)
  · intro k o; rw [exec_longBranch, exec_longBranch]; exact hp (sim_branch hS _ _) (sameCycles_long k)
  · intro m; rw [exec_jump, exec_jump]; exact hp (sim_jump hS _) (sameCycles_cfg fun _ _ h => by simp only [h])
  · intro m; rw [exec_jumpSub, exec_jumpSub]; exact hp (sim_jumpSub hS _) (sameCycles_cfg fun _ _ h => by simp only [h])
  · exact hp (m := mul) (.regs hS fun _ => ⟨rfl, rfl, rfl⟩) (sameCycles_cfg fun _ _ _ => rfl)
  · exact hp (m := daa) (.regs hS fun _ => ⟨rfl, rfl, rfl⟩) (sameCycles_cfg fun _ _ _ => rfl)
  · exact hp (m := sex) (.regs hS fun _ => ⟨rfl, rfl, rfl⟩) (sameCycles_cfg fun _ _ _ => rfl)
  · exact hp (m := abx) (.regs hS fun _ => ⟨rfl, rfl, rfl⟩) (sameCycles_cfg fun _ _ _ => rfl)
  · exact fun v => hp (m := andcc v) (.regs hS fun _ => ⟨rfl, rfl, rfl⟩) (sameCycles_cfg fun _ _ _ => rfl)
  · exact fun v => hp (m := orcc v) (.regs hS fun _ => ⟨rfl, rfl, rfl⟩) (sameCycles_cfg fun _ _ _ => rfl)
  · exact fun r0 r1 => hp (sim_transfer hS r0 r1) (sameCycles_cfg fun _ _ _ => rfl)
  · exact fun r0 r1 => hp (sim_exchange hS r0 r1) (sameCycles_cfg fun _ _ _ => rfl)
  · exact fun m => hp (sim_pushRegs hS .s m) (sameCycles_cfg fun _ _ h => by simp only [stackAddend, h])
  · exact fun m => hp (sim_pullRegs hS .s m) (sameCycles_cfg fun _ _ h => by simp only [stackAddend, h])
  · exact fun m => hp (sim_pushRegs hS .u m) (sameCycles_cfg fun _ _ h => by simp only [stackAddend, h])
  · exact fun m => hp (sim_pullRegs hS .u m) (sameCycles_cfg fun _ _ h => by simp only [stackAddend, h])
  · exact fun o => hp (sim_branchSub hS (sext8 o)) (sameCycles_cfg fun _ _ _ => rfl)
  · exact fun o => hp (sim_branchSub hS o) (sameCycles_cfg fun _ _ _ => rfl)
  · exact hp (sim_returnSub hS) (sameCycles_cfg fun _ _ _ => rfl)
  · exact hp (m := pure ()) (.pure hS ()) (sameCycles_cfg fun _ _ _ => rfl)
  · exact hp (sim_enter hS .swi) (sameCycles_cfg fun _ _ _ => rfl)
  · exact hp (sim_enter hS .swi2) (sameCycles_cfg fun _ _ _ => rfl)
  · exact hp (sim_enter hS .swi3) (sameCycles_cfg fun _ _ _ => rfl)
  · exact hp (sim_returnFromInterrupt hS) sameCycles_rti
  · exact fun v => hp (sim_cwai hS v) (sameCycles_cfg fun _ _ _ => rfl)
  · exact hp (m := sync) (.regs hS fun _ => ⟨rfl, rfl, rfl⟩) (sameCycles_cfg fun _ _ _ => rfl)

/-- An instruction that stores nothing keeps what the other parts of a step keep. -/
theorem sim_exec_noStore (hS : StepSim w Q) (hT : ∀ {s t} n, Q s t → Q (s.tick n) (t.tick n)) {i : Instr}
    (hi : i.stores = false) {s t : State} (h : Q s t) : OutRel Q (exec i s) (exec i t) := by
  have hp {op : Nat} {ad : State → Nat} {m : Op Unit} (hm : Op.Sim Q m) (hc : SameCycles ad) :
      OutRel Q (perform op ad m s) (perform op ad m t) := sim_perform hS hT hm hc h
  revert hi
  refine Instr.byFamily (P := fun i => i.stores = false → OutRel Q (exec i s) (exec i t)) ?_ ?_ ?_ ?_ ?_ ?_ ?_ ?_ ?_
    ?_ ?_ ?_ ?_ ?_ ?_ ?_ ?_ ?_ ?_ ?_ ?_ ?_ ?_ ?_ ?_ ?_ ?_ ?_ ?_ ?_ ?_ ?_ ?_ ?_ ?_ ?_ i
  · intro o r src _; rw [exec_bin8, exec_bin8]
    exact hp (sim_bin8 hS _ _ _) (sameCycles_cfg fun _ _ h => by simp only [h])
  · intro r src _; rw [exec_load16, exec_load16]
    exact hp (sim_load16 hS _ _) (sameCycles_cfg fun _ _ h => by simp only [h])
  · intro r src _; rw [exec_cmp16, exec_cmp16]
    exact hp (sim_cmp16 hS _ _) (sameCycles_cfg fun _ _ h => by simp only [h])
  · intro src _; rw [exec_addD, exec_addD]; exact hp (sim_addD hS _) (sameCycles_cfg fun _ _ h => by simp only [h])
  · intro src _; rw [exec_subD, exec_subD]; exact hp (sim_subD hS _) (sameCycles_cfg fun _ _ h => by simp only [h])
  · intro r m hi; cases r <;> cases m <;> cases hi
  · intro r m hi; cases r <;> cases m <;> cases hi
  · intro r p _; rw [exec_lea, exec_lea]; exact hp (sim_lea hS _ _) (sameCycles_cfg fun _ _ h => by simp only [h])
  · intro o r _; rw [exec_un8Acc, exec_un8Acc]; exact hp (sim_un8Acc hS _ _) (sameCycles_cfg fun _ _ _ => rfl)
  · intro o m hi
    cases o
    case tst => rw [exec_un8Mem, exec_un8Mem]; exact hp (sim_tstMem hS _) (sameCycles_cfg fun _ _ h => by simp only [h])
    all_goals cases m <;> cases hi
  · intro k o _; rw [exec_branch, exec_branch]; exact hp (sim_branch hS _ _) (sameCycles_cfg fun _ _ _ => rfl)
  · intro k o _; rw [exec_longBranch, exec_longBranch]; exact hp (sim_branch hS _ _) (sameCycles_long k)
  · intro m _; rw [exec_jump, exec_jump]; exact hp (sim_jump hS _) (sameCycles_cfg fun _ _ h => by simp only [h])
  · intro m hi; cases m <;> cases hi
  · exact fun _ => hp (m := mul) (.regs hS fun _ => ⟨rfl, rfl, rfl⟩) (sameCycles_cfg fun _ _ _ => rfl)
  · exact fun _ => hp (m := daa) (.regs hS fun _ => ⟨rfl, rfl, rfl⟩) (sameCycles_cfg fun _ _ _ => rfl)
  · exact fun _ => hp (m := sex) (.regs hS fun _ => ⟨rfl, rfl, rfl⟩) (sameCycles_cfg fun _ _ _ => rfl)
  · exact fun _ => hp (m := abx) (.regs hS fun _ => ⟨rfl, rfl, rfl⟩) (sameCycles_cfg fun _ _ _ => rfl)
  · exact fun v _ => hp (m := andcc v) (.regs hS fun _ => ⟨rfl, rfl, rfl⟩) (sameCycles_cfg fun _ _ _ => rfl)
  · exact fun v _ => hp (m := orcc v) (.regs hS fun _ => ⟨rfl, rfl, rfl⟩) (sameCycles_cfg fun _ _ _ => rfl)
  · exact fun r0 r1 _ => hp (sim_transfer hS r0 r1) (sameCycles_cfg fun _ _ _ => rfl)
  · exact fun r0 r1 _ => hp (sim_exchange hS r0 r1) (sameCycles_cfg fun _ _ _ => rfl)
  · exact fun m hi => by cases hi
  · exact fun m _ => hp (sim_pullRegs hS .s m) (sameCycles_cfg fun _ _ h => by simp only [stackAddend, h])
  · exact fun m hi => by cases hi
  · exact fun m _ => hp (sim_pullRegs hS .u m) (sameCycles_cfg fun _ _ h => by simp only [stackAddend, h])
  · exact fun o hi => by cases hi
  · exact fun o hi => by cases hi
  · exact fun _ => hp (sim_returnSub hS) (sameCycles_cfg fun _ _ _ => rfl)
  · exact fun _ => hp (m := pure ()) (.pure hS ()) (sameCycles_cfg fun _ _ _ => rfl)
  · exact fun hi => by cases hi
  · exact fun hi => by cases hi
  · exact fun hi => by cases hi
  · exact fun _ => hp (sim_returnFromInterrupt hS) sameCycles_rti
  · exact fun v hi => by cases hi
  · exact fun _ => hp (m := sync) (.regs hS fun _ => ⟨rfl, rfl, rfl⟩) (sameCycles_cfg fun _ _ _ => rfl)

theorem sim_fetchFrom (hS : StepSim w Q) (start : Word) (n : Nat) (bs : List Byte) :
    Op.Sim Q (fetchFrom start n bs) := by
  induction n generalizing bs with
  | zero =>
    unfold fetchFrom
    split
    · exact .pure hS _
    · exact .raise hS fun b => .invalidOpcode b start bs
    · exact .raise hS fun b => .invalidOpcode b start bs
  | succ n ih =>
    unfold fetchFrom
    split
    · exact .pure hS _
    · exact .raise hS fun b => .invalidOpcode b start bs
    · exact .bind hS (sim_fetch8 hS) fun v => ih _

theorem sim_fetchInstr (hS : StepSim w Q) : Op.Sim Q fetchInstr :=
  .bind hS (.getCore hS) fun _ => sim_fetchFrom hS _ _ _

theorem sim_instrStep (hS : StepSim true Q) (hT : ∀ {s t} n, Q s t → Q (s.tick n) (t.tick n)) {s t : State} (h :
    Q s t) :
    OutRel Q (instrStep s) (instrStep t) := by
  have h1 := (sim_fetchInstr hS).run h
  unfold instrStep
  cases hr : fetchInstr s with
  | ok i u =>
    cases hr' : fetchInstr t with
    | ok j v =>
      rw [hr, hr'] at h1
      rw [show j = i from h1.1]
      exact sim_exec hS hT i h1.2
    | error e v => rw [hr, hr'] at h1; exact h1.elim
  | error e u =>
    cases hr' : fetchInstr t with
    | ok y v => rw [hr, hr'] at h1; exact h1.elim
    | error e' v => rw [hr, hr'] at h1; exact ⟨_, _, rfl, rfl, h1⟩

theorem sameCycles_service (k : Entry) : SameCycles (serviceCycles k) :=
  sameCycles_cfg fun s t h => by unfold serviceCycles; rw [h]

theorem sim_wake (hS : StepSim w Q) {s t : State} (h : Q s t) : Q s.wake t.wake :=
  hS.core _ (coreChange_same (fun _ => ⟨rfl, rfl, rfl⟩) _) h

/-- What every part of a step keeps, the step of a core keeps. -/
theorem sim_coreStep (hS : StepSim true Q) (hT : ∀ {s t} n, Q s t → Q (s.tick n) (t.tick n)) {s t : State} (h : Q s t) :
    OutRel Q (coreStep s) (coreStep t) := by
  have hs := hS.same h
  have idle : OutRel Q (idleStep s) (idleStep t) := ⟨_, _, rfl, rfl, by rw [hs.2.1]; exact hT _ h⟩
  unfold coreStep runStep syncStep cwaiStep
  rw [hs.1, hs.2.1]
  split
  · split
    · exact sim_runOp hS hT (sim_enter hS _) (sameCycles_service _) h
    · exact sim_instrStep hS hT h
  · split
    · exact sim_runOp hS hT (sim_enter hS _) (sameCycles_service _) (sim_wake hS h)
    · split
      · exact sim_instrStep hS hT (sim_wake hS h)
      · exact idle
  · split
    · exact sim_runOp hS hT (sim_takeVector hS _) (sameCycles_cfg fun _ _ h => by simp only [h]) (sim_wake hS h)
    · exact idle

/-! ### One run -/

/-- A relation between the states before and after that holds across every part of a core's step but the count of its
cycles, bus writes included when `w` says so. -/
structure StepRel (w : Bool) (R : State → State → Prop) : Prop where
  refl : ∀ s, R s s
  trans : ∀ {s t u}, R s t → R t u → R s u
  core : ∀ s f, CoreChange s.cfg.hasNmi f → R s (s.modCore f)
  read : ∀ s a, a < 0x10000 → R s (after (busRead s.active a s))
  write : w = true → ∀ s a v, R s (after (busWrite s.active a v s))
  fatal : ∀ s f, R s { s with fatal := some f }

variable {R : State → State → Prop}

theorem resultRel_self {α : Type} {s₀ s : State} (hR : StepRel w R) {r : EStateM.Result Unit State α} (h : R s₀ s)
    (k : R s (after r)) : ResultRel (fun u v => v = u ∧ R s₀ u) r r := by
  cases r with
  | ok x u => exact ⟨rfl, rfl, hR.trans h k⟩
  | error e u => exact ⟨rfl, hR.trans h k⟩

/-- One run beside itself. -/
theorem StepRel.sim (hR : StepRel w R) (s₀ : State) : StepSim w (fun u v => v = u ∧ R s₀ u) where
  same h := by rw [h.1]; exact ⟨rfl, rfl, rfl⟩
  core f hf h := ⟨by rw [h.1], hR.trans h.2 (hR.core _ f hf)⟩
  read a ha h := by rw [h.1]; exact resultRel_self hR h.2 (hR.read _ a ha)
  write hw _ _ a v h := by rw [h.1]; exact resultRel_self hR h.2 (hR.write hw _ a v)
  fatal f h := ⟨by rw [h.1], hR.trans h.2 (hR.fatal _ f)⟩

/-- An operation across which the relation holds. -/
theorem StepRel.op (hR : StepRel w R) {α : Type} {m : Op α} (hm : ∀ {Q}, StepSim w Q → Op.Sim Q m) (s : State) :
    R s (after (m s)) := by
  have h := (hm (hR.sim s)).run (s := s) (t := s) ⟨rfl, hR.refl s⟩
  cases hr : m s with
  | ok x u => rw [hr] at h; exact h.2.2
  | error e u => rw [hr] at h; exact h.2

/-- What every part of a step keeps, every instruction keeps. -/
theorem rel_exec (hR : StepRel true R) (hT : ∀ s n, R s (s.tick n)) {i : Instr} {s t : State} (h : exec i s = .next t) :
    R s t := by
  obtain ⟨u, _, hu, _, _, hr⟩ := sim_exec (hR.sim s) (fun n h => ⟨by rw [h.1], hR.trans h.2 (hT _ n)⟩) i
    (s := s) (t := s) ⟨rfl, hR.refl s⟩
  rw [hu] at h
  cases h
  exact hr

/-- An instruction that stores nothing keeps what the other parts of a step keep. -/
theorem rel_exec_noStore (hR : StepRel w R) (hT : ∀ s n, R s (s.tick n)) {i : Instr} (hi : i.stores = false) {s t :
    State}
    (h : exec i s = .next t) : R s t := by
  obtain ⟨u, _, hu, _, _, hr⟩ := sim_exec_noStore (hR.sim s) (fun n h => ⟨by rw [h.1], hR.trans h.2 (hT _ n)⟩) hi
    (s := s) (t := s) ⟨rfl, hR.refl s⟩
  rw [hu] at h
  cases h
  exact hr

/-- What every part of a step keeps, the step of a core keeps. -/
theorem rel_coreStep (hR : StepRel true R) (hT : ∀ s n, R s (s.tick n)) {s t : State} (h : coreStep s = .next t) :
    R s t := by
  obtain ⟨u, _, hu, _, _, hr⟩ := sim_coreStep (hR.sim s) (fun n h => ⟨by rw [h.1], hR.trans h.2 (hT _ n)⟩)
    (s := s) (t := s) ⟨rfl, hR.refl s⟩
  rw [hu] at h
  cases h
  exact hr

end Sys2Proof.Machine
end

