-- ==== Sys2Proof/Laws/PerInstr.lean ====
section
/-! SUPPORT. Statements about every instruction as syntax, one lemma for each constructor. -/

namespace Sys2Proof.Laws

set_option Elab.async false

/-- An instruction's encoding is 1 to 5 bytes long (30_encoding.md R110 to R112). -/
def EncodedLength.Statement (i : Instr) : Prop := 1 ≤ (encode i).length ∧ (encode i).length ≤ maxLength

/-- The postbyte and its extension bytes: one to three bytes. -/
theorem indexed_length (p : Indexed) : 1 ≤ p.bytes.length ∧ p.bytes.length ≤ 3 := by
  cases p <;> simp [Indexed.bytes]

/-- An opcode of one or two bytes, then an indexed operand. -/
theorem indexed_encoded_length (p : Indexed) (op : List Byte) (h : op.length ≤ 2) :
    1 ≤ (op ++ p.bytes).length ∧ (op ++ p.bytes).length ≤ maxLength := by
  have hp := indexed_length p
  simp only [List.length_append, maxLength]
  omega

/-- An encoding of a known length. -/
theorem encoded_length {i : Instr} (n : Nat) (h : (encode i).length = n + 1) (hn : n + 1 ≤ maxLength := by decide) :
    EncodedLength.Statement i := by
  unfold EncodedLength.Statement
  omega

theorem EncodedLength.ldaImm (v : Byte) : EncodedLength.Statement (.ldaImm v) := encoded_length 1 rfl
theorem EncodedLength.ldaDir (a : Byte) : EncodedLength.Statement (.ldaDir a) := encoded_length 1 rfl
theorem EncodedLength.ldaIdx (p : Indexed) : EncodedLength.Statement (.ldaIdx p) :=
  indexed_encoded_length p [0xA6] (by decide)
theorem EncodedLength.ldaExt (a : Word) : EncodedLength.Statement (.ldaExt a) := encoded_length 2 rfl
theorem EncodedLength.ldbImm (v : Byte) : EncodedLength.Statement (.ldbImm v) := encoded_length 1 rfl
theorem EncodedLength.ldbDir (a : Byte) : EncodedLength.Statement (.ldbDir a) := encoded_length 1 rfl
theorem EncodedLength.ldbIdx (p : Indexed) : EncodedLength.Statement (.ldbIdx p) :=
  indexed_encoded_length p [0xE6] (by decide)
theorem EncodedLength.ldbExt (a : Word) : EncodedLength.Statement (.ldbExt a) := encoded_length 2 rfl
theorem EncodedLength.lddImm (v : Word) : EncodedLength.Statement (.lddImm v) := encoded_length 2 rfl
theorem EncodedLength.lddDir (a : Byte) : EncodedLength.Statement (.lddDir a) := encoded_length 1 rfl
theorem EncodedLength.lddIdx (p : Indexed) : EncodedLength.Statement (.lddIdx p) :=
  indexed_encoded_length p [0xEC] (by decide)
theorem EncodedLength.lddExt (a : Word) : EncodedLength.Statement (.lddExt a) := encoded_length 2 rfl
theorem EncodedLength.ldxImm (v : Word) : EncodedLength.Statement (.ldxImm v) := encoded_length 2 rfl
theorem EncodedLength.ldxDir (a : Byte) : EncodedLength.Statement (.ldxDir a) := encoded_length 1 rfl
theorem EncodedLength.ldxIdx (p : Indexed) : EncodedLength.Statement (.ldxIdx p) :=
  indexed_encoded_length p [0xAE] (by decide)
theorem EncodedLength.ldxExt (a : Word) : EncodedLength.Statement (.ldxExt a) := encoded_length 2 rfl
theorem EncodedLength.ldyImm (v : Word) : EncodedLength.Statement (.ldyImm v) := encoded_length 3 rfl
theorem EncodedLength.ldyDir (a : Byte) : EncodedLength.Statement (.ldyDir a) := encoded_length 2 rfl
theorem EncodedLength.ldyIdx (p : Indexed) : EncodedLength.Statement (.ldyIdx p) :=
  indexed_encoded_length p [0x10, 0xAE] (by decide)
theorem EncodedLength.ldyExt (a : Word) : EncodedLength.Statement (.ldyExt a) := encoded_length 3 rfl
theorem EncodedLength.lduImm (v : Word) : EncodedLength.Statement (.lduImm v) := encoded_length 2 rfl
theorem EncodedLength.lduDir (a : Byte) : EncodedLength.Statement (.lduDir a) := encoded_length 1 rfl
theorem EncodedLength.lduIdx (p : Indexed) : EncodedLength.Statement (.lduIdx p) :=
  indexed_encoded_length p [0xEE] (by decide)
theorem EncodedLength.lduExt (a : Word) : EncodedLength.Statement (.lduExt a) := encoded_length 2 rfl
theorem EncodedLength.ldsImm (v : Word) : EncodedLength.Statement (.ldsImm v) := encoded_length 3 rfl
theorem EncodedLength.ldsDir (a : Byte) : EncodedLength.Statement (.ldsDir a) := encoded_length 2 rfl
theorem EncodedLength.ldsIdx (p : Indexed) : EncodedLength.Statement (.ldsIdx p) :=
  indexed_encoded_length p [0x10, 0xEE] (by decide)
theorem EncodedLength.ldsExt (a : Word) : EncodedLength.Statement (.ldsExt a) := encoded_length 3 rfl
theorem EncodedLength.staDir (a : Byte) : EncodedLength.Statement (.staDir a) := encoded_length 1 rfl
theorem EncodedLength.staIdx (p : Indexed) : EncodedLength.Statement (.staIdx p) :=
  indexed_encoded_length p [0xA7] (by decide)
theorem EncodedLength.staExt (a : Word) : EncodedLength.Statement (.staExt a) := encoded_length 2 rfl
theorem EncodedLength.stbDir (a : Byte) : EncodedLength.Statement (.stbDir a) := encoded_length 1 rfl
theorem EncodedLength.stbIdx (p : Indexed) : EncodedLength.Statement (.stbIdx p) :=
  indexed_encoded_length p [0xE7] (by decide)
theorem EncodedLength.stbExt (a : Word) : EncodedLength.Statement (.stbExt a) := encoded_length 2 rfl
theorem EncodedLength.stdDir (a : Byte) : EncodedLength.Statement (.stdDir a) := encoded_length 1 rfl
theorem EncodedLength.stdIdx (p : Indexed) : EncodedLength.Statement (.stdIdx p) :=
  indexed_encoded_length p [0xED] (by decide)
theorem EncodedLength.stdExt (a : Word) : EncodedLength.Statement (.stdExt a) := encoded_length 2 rfl
theorem EncodedLength.stxDir (a : Byte) : EncodedLength.Statement (.stxDir a) := encoded_length 1 rfl
theorem EncodedLength.stxIdx (p : Indexed) : EncodedLength.Statement (.stxIdx p) :=
  indexed_encoded_length p [0xAF] (by decide)
theorem EncodedLength.stxExt (a : Word) : EncodedLength.Statement (.stxExt a) := encoded_length 2 rfl
theorem EncodedLength.styDir (a : Byte) : EncodedLength.Statement (.styDir a) := encoded_length 2 rfl
theorem EncodedLength.styIdx (p : Indexed) : EncodedLength.Statement (.styIdx p) :=
  indexed_encoded_length p [0x10, 0xAF] (by decide)
theorem EncodedLength.styExt (a : Word) : EncodedLength.Statement (.styExt a) := encoded_length 3 rfl
theorem EncodedLength.stuDir (a : Byte) : EncodedLength.Statement (.stuDir a) := encoded_length 1 rfl
theorem EncodedLength.stuIdx (p : Indexed) : EncodedLength.Statement (.stuIdx p) :=
  indexed_encoded_length p [0xEF] (by decide)
theorem EncodedLength.stuExt (a : Word) : EncodedLength.Statement (.stuExt a) := encoded_length 2 rfl
theorem EncodedLength.stsDir (a : Byte) : EncodedLength.Statement (.stsDir a) := encoded_length 2 rfl
theorem EncodedLength.stsIdx (p : Indexed) : EncodedLength.Statement (.stsIdx p) :=
  indexed_encoded_length p [0x10, 0xEF] (by decide)
theorem EncodedLength.stsExt (a : Word) : EncodedLength.Statement (.stsExt a) := encoded_length 3 rfl
theorem EncodedLength.leax (p : Indexed) : EncodedLength.Statement (.leax p) :=
  indexed_encoded_length p [0x30] (by decide)
theorem EncodedLength.leay (p : Indexed) : EncodedLength.Statement (.leay p) :=
  indexed_encoded_length p [0x31] (by decide)
theorem EncodedLength.leas (p : Indexed) : EncodedLength.Statement (.leas p) :=
  indexed_encoded_length p [0x32] (by decide)
theorem EncodedLength.leau (p : Indexed) : EncodedLength.Statement (.leau p) :=
  indexed_encoded_length p [0x33] (by decide)
theorem EncodedLength.addaImm (v : Byte) : EncodedLength.Statement (.addaImm v) := encoded_length 1 rfl
theorem EncodedLength.addaDir (a : Byte) : EncodedLength.Statement (.addaDir a) := encoded_length 1 rfl
theorem EncodedLength.addaIdx (p : Indexed) : EncodedLength.Statement (.addaIdx p) :=
  indexed_encoded_length p [0xAB] (by decide)
theorem EncodedLength.addaExt (a : Word) : EncodedLength.Statement (.addaExt a) := encoded_length 2 rfl
theorem EncodedLength.addbImm (v : Byte) : EncodedLength.Statement (.addbImm v) := encoded_length 1 rfl
theorem EncodedLength.addbDir (a : Byte) : EncodedLength.Statement (.addbDir a) := encoded_length 1 rfl
theorem EncodedLength.addbIdx (p : Indexed) : EncodedLength.Statement (.addbIdx p) :=
  indexed_encoded_length p [0xEB] (by decide)
theorem EncodedLength.addbExt (a : Word) : EncodedLength.Statement (.addbExt a) := encoded_length 2 rfl
theorem EncodedLength.adcaImm (v : Byte) : EncodedLength.Statement (.adcaImm v) := encoded_length 1 rfl
theorem EncodedLength.adcaDir (a : Byte) : EncodedLength.Statement (.adcaDir a) := encoded_length 1 rfl
theorem EncodedLength.adcaIdx (p : Indexed) : EncodedLength.Statement (.adcaIdx p) :=
  indexed_encoded_length p [0xA9] (by decide)
theorem EncodedLength.adcaExt (a : Word) : EncodedLength.Statement (.adcaExt a) := encoded_length 2 rfl
theorem EncodedLength.adcbImm (v : Byte) : EncodedLength.Statement (.adcbImm v) := encoded_length 1 rfl
theorem EncodedLength.adcbDir (a : Byte) : EncodedLength.Statement (.adcbDir a) := encoded_length 1 rfl
theorem EncodedLength.adcbIdx (p : Indexed) : EncodedLength.Statement (.adcbIdx p) :=
  indexed_encoded_length p [0xE9] (by decide)
theorem EncodedLength.adcbExt (a : Word) : EncodedLength.Statement (.adcbExt a) := encoded_length 2 rfl
theorem EncodedLength.subaImm (v : Byte) : EncodedLength.Statement (.subaImm v) := encoded_length 1 rfl
theorem EncodedLength.subaDir (a : Byte) : EncodedLength.Statement (.subaDir a) := encoded_length 1 rfl
theorem EncodedLength.subaIdx (p : Indexed) : EncodedLength.Statement (.subaIdx p) :=
  indexed_encoded_length p [0xA0] (by decide)
theorem EncodedLength.subaExt (a : Word) : EncodedLength.Statement (.subaExt a) := encoded_length 2 rfl
theorem EncodedLength.subbImm (v : Byte) : EncodedLength.Statement (.subbImm v) := encoded_length 1 rfl
theorem EncodedLength.subbDir (a : Byte) : EncodedLength.Statement (.subbDir a) := encoded_length 1 rfl
theorem EncodedLength.subbIdx (p : Indexed) : EncodedLength.Statement (.subbIdx p) :=
  indexed_encoded_length p [0xE0] (by decide)
theorem EncodedLength.subbExt (a : Word) : EncodedLength.Statement (.subbExt a) := encoded_length 2 rfl
theorem EncodedLength.sbcaImm (v : Byte) : EncodedLength.Statement (.sbcaImm v) := encoded_length 1 rfl
theorem EncodedLength.sbcaDir (a : Byte) : EncodedLength.Statement (.sbcaDir a) := encoded_length 1 rfl
theorem EncodedLength.sbcaIdx (p : Indexed) : EncodedLength.Statement (.sbcaIdx p) :=
  indexed_encoded_length p [0xA2] (by decide)
theorem EncodedLength.sbcaExt (a : Word) : EncodedLength.Statement (.sbcaExt a) := encoded_length 2 rfl
theorem EncodedLength.sbcbImm (v : Byte) : EncodedLength.Statement (.sbcbImm v) := encoded_length 1 rfl
theorem EncodedLength.sbcbDir (a : Byte) : EncodedLength.Statement (.sbcbDir a) := encoded_length 1 rfl
theorem EncodedLength.sbcbIdx (p : Indexed) : EncodedLength.Statement (.sbcbIdx p) :=
  indexed_encoded_length p [0xE2] (by decide)
theorem EncodedLength.sbcbExt (a : Word) : EncodedLength.Statement (.sbcbExt a) := encoded_length 2 rfl
theorem EncodedLength.cmpaImm (v : Byte) : EncodedLength.Statement (.cmpaImm v) := encoded_length 1 rfl
theorem EncodedLength.cmpaDir (a : Byte) : EncodedLength.Statement (.cmpaDir a) := encoded_length 1 rfl
theorem EncodedLength.cmpaIdx (p : Indexed) : EncodedLength.Statement (.cmpaIdx p) :=
  indexed_encoded_length p [0xA1] (by decide)
theorem EncodedLength.cmpaExt (a : Word) : EncodedLength.Statement (.cmpaExt a) := encoded_length 2 rfl
theorem EncodedLength.cmpbImm (v : Byte) : EncodedLength.Statement (.cmpbImm v) := encoded_length 1 rfl
theorem EncodedLength.cmpbDir (a : Byte) : EncodedLength.Statement (.cmpbDir a) := encoded_length 1 rfl
theorem EncodedLength.cmpbIdx (p : Indexed) : EncodedLength.Statement (.cmpbIdx p) :=
  indexed_encoded_length p [0xE1] (by decide)
theorem EncodedLength.cmpbExt (a : Word) : EncodedLength.Statement (.cmpbExt a) := encoded_length 2 rfl
theorem EncodedLength.adddImm (v : Word) : EncodedLength.Statement (.adddImm v) := encoded_length 2 rfl
theorem EncodedLength.adddDir (a : Byte) : EncodedLength.Statement (.adddDir a) := encoded_length 1 rfl
theorem EncodedLength.adddIdx (p : Indexed) : EncodedLength.Statement (.adddIdx p) :=
  indexed_encoded_length p [0xE3] (by decide)
theorem EncodedLength.adddExt (a : Word) : EncodedLength.Statement (.adddExt a) := encoded_length 2 rfl
theorem EncodedLength.subdImm (v : Word) : EncodedLength.Statement (.subdImm v) := encoded_length 2 rfl
theorem EncodedLength.subdDir (a : Byte) : EncodedLength.Statement (.subdDir a) := encoded_length 1 rfl
theorem EncodedLength.subdIdx (p : Indexed) : EncodedLength.Statement (.subdIdx p) :=
  indexed_encoded_length p [0xA3] (by decide)
theorem EncodedLength.subdExt (a : Word) : EncodedLength.Statement (.subdExt a) := encoded_length 2 rfl
theorem EncodedLength.cmpdImm (v : Word) : EncodedLength.Statement (.cmpdImm v) := encoded_length 3 rfl
theorem EncodedLength.cmpdDir (a : Byte) : EncodedLength.Statement (.cmpdDir a) := encoded_length 2 rfl
theorem EncodedLength.cmpdIdx (p : Indexed) : EncodedLength.Statement (.cmpdIdx p) :=
  indexed_encoded_length p [0x10, 0xA3] (by decide)
theorem EncodedLength.cmpdExt (a : Word) : EncodedLength.Statement (.cmpdExt a) := encoded_length 3 rfl
theorem EncodedLength.cmpxImm (v : Word) : EncodedLength.Statement (.cmpxImm v) := encoded_length 2 rfl
theorem EncodedLength.cmpxDir (a : Byte) : EncodedLength.Statement (.cmpxDir a) := encoded_length 1 rfl
theorem EncodedLength.cmpxIdx (p : Indexed) : EncodedLength.Statement (.cmpxIdx p) :=
  indexed_encoded_length p [0xAC] (by decide)
theorem EncodedLength.cmpxExt (a : Word) : EncodedLength.Statement (.cmpxExt a) := encoded_length 2 rfl
theorem EncodedLength.cmpyImm (v : Word) : EncodedLength.Statement (.cmpyImm v) := encoded_length 3 rfl
theorem EncodedLength.cmpyDir (a : Byte) : EncodedLength.Statement (.cmpyDir a) := encoded_length 2 rfl
theorem EncodedLength.cmpyIdx (p : Indexed) : EncodedLength.Statement (.cmpyIdx p) :=
  indexed_encoded_length p [0x10, 0xAC] (by decide)
theorem EncodedLength.cmpyExt (a : Word) : EncodedLength.Statement (.cmpyExt a) := encoded_length 3 rfl
theorem EncodedLength.cmpuImm (v : Word) : EncodedLength.Statement (.cmpuImm v) := encoded_length 3 rfl
theorem EncodedLength.cmpuDir (a : Byte) : EncodedLength.Statement (.cmpuDir a) := encoded_length 2 rfl
theorem EncodedLength.cmpuIdx (p : Indexed) : EncodedLength.Statement (.cmpuIdx p) :=
  indexed_encoded_length p [0x11, 0xA3] (by decide)
theorem EncodedLength.cmpuExt (a : Word) : EncodedLength.Statement (.cmpuExt a) := encoded_length 3 rfl
theorem EncodedLength.cmpsImm (v : Word) : EncodedLength.Statement (.cmpsImm v) := encoded_length 3 rfl
theorem EncodedLength.cmpsDir (a : Byte) : EncodedLength.Statement (.cmpsDir a) := encoded_length 2 rfl
theorem EncodedLength.cmpsIdx (p : Indexed) : EncodedLength.Statement (.cmpsIdx p) :=
  indexed_encoded_length p [0x11, 0xAC] (by decide)
theorem EncodedLength.cmpsExt (a : Word) : EncodedLength.Statement (.cmpsExt a) := encoded_length 3 rfl
theorem EncodedLength.nega : EncodedLength.Statement .nega := encoded_length 0 rfl
theorem EncodedLength.negb : EncodedLength.Statement .negb := encoded_length 0 rfl
theorem EncodedLength.negDir (a : Byte) : EncodedLength.Statement (.negDir a) := encoded_length 1 rfl
theorem EncodedLength.negIdx (p : Indexed) : EncodedLength.Statement (.negIdx p) :=
  indexed_encoded_length p [0x60] (by decide)
theorem EncodedLength.negExt (a : Word) : EncodedLength.Statement (.negExt a) := encoded_length 2 rfl
theorem EncodedLength.inca : EncodedLength.Statement .inca := encoded_length 0 rfl
theorem EncodedLength.incb : EncodedLength.Statement .incb := encoded_length 0 rfl
theorem EncodedLength.incDir (a : Byte) : EncodedLength.Statement (.incDir a) := encoded_length 1 rfl
theorem EncodedLength.incIdx (p : Indexed) : EncodedLength.Statement (.incIdx p) :=
  indexed_encoded_length p [0x6C] (by decide)
theorem EncodedLength.incExt (a : Word) : EncodedLength.Statement (.incExt a) := encoded_length 2 rfl
theorem EncodedLength.deca : EncodedLength.Statement .deca := encoded_length 0 rfl
theorem EncodedLength.decb : EncodedLength.Statement .decb := encoded_length 0 rfl
theorem EncodedLength.decDir (a : Byte) : EncodedLength.Statement (.decDir a) := encoded_length 1 rfl
theorem EncodedLength.decIdx (p : Indexed) : EncodedLength.Statement (.decIdx p) :=
  indexed_encoded_length p [0x6A] (by decide)
theorem EncodedLength.decExt (a : Word) : EncodedLength.Statement (.decExt a) := encoded_length 2 rfl
theorem EncodedLength.clra : EncodedLength.Statement .clra := encoded_length 0 rfl
theorem EncodedLength.clrb : EncodedLength.Statement .clrb := encoded_length 0 rfl
theorem EncodedLength.clrDir (a : Byte) : EncodedLength.Statement (.clrDir a) := encoded_length 1 rfl
theorem EncodedLength.clrIdx (p : Indexed) : EncodedLength.Statement (.clrIdx p) :=
  indexed_encoded_length p [0x6F] (by decide)
theorem EncodedLength.clrExt (a : Word) : EncodedLength.Statement (.clrExt a) := encoded_length 2 rfl
theorem EncodedLength.tsta : EncodedLength.Statement .tsta := encoded_length 0 rfl
theorem EncodedLength.tstb : EncodedLength.Statement .tstb := encoded_length 0 rfl
theorem EncodedLength.tstDir (a : Byte) : EncodedLength.Statement (.tstDir a) := encoded_length 1 rfl
theorem EncodedLength.tstIdx (p : Indexed) : EncodedLength.Statement (.tstIdx p) :=
  indexed_encoded_length p [0x6D] (by decide)
theorem EncodedLength.tstExt (a : Word) : EncodedLength.Statement (.tstExt a) := encoded_length 2 rfl
theorem EncodedLength.mul : EncodedLength.Statement .mul := encoded_length 0 rfl
theorem EncodedLength.daa : EncodedLength.Statement .daa := encoded_length 0 rfl
theorem EncodedLength.sex : EncodedLength.Statement .sex := encoded_length 0 rfl
theorem EncodedLength.abx : EncodedLength.Statement .abx := encoded_length 0 rfl
theorem EncodedLength.andaImm (v : Byte) : EncodedLength.Statement (.andaImm v) := encoded_length 1 rfl
theorem EncodedLength.andaDir (a : Byte) : EncodedLength.Statement (.andaDir a) := encoded_length 1 rfl
theorem EncodedLength.andaIdx (p : Indexed) : EncodedLength.Statement (.andaIdx p) :=
  indexed_encoded_length p [0xA4] (by decide)
theorem EncodedLength.andaExt (a : Word) : EncodedLength.Statement (.andaExt a) := encoded_length 2 rfl
theorem EncodedLength.andbImm (v : Byte) : EncodedLength.Statement (.andbImm v) := encoded_length 1 rfl
theorem EncodedLength.andbDir (a : Byte) : EncodedLength.Statement (.andbDir a) := encoded_length 1 rfl
theorem EncodedLength.andbIdx (p : Indexed) : EncodedLength.Statement (.andbIdx p) :=
  indexed_encoded_length p [0xE4] (by decide)
theorem EncodedLength.andbExt (a : Word) : EncodedLength.Statement (.andbExt a) := encoded_length 2 rfl
theorem EncodedLength.oraImm (v : Byte) : EncodedLength.Statement (.oraImm v) := encoded_length 1 rfl
theorem EncodedLength.oraDir (a : Byte) : EncodedLength.Statement (.oraDir a) := encoded_length 1 rfl
theorem EncodedLength.oraIdx (p : Indexed) : EncodedLength.Statement (.oraIdx p) :=
  indexed_encoded_length p [0xAA] (by decide)
theorem EncodedLength.oraExt (a : Word) : EncodedLength.Statement (.oraExt a) := encoded_length 2 rfl
theorem EncodedLength.orbImm (v : Byte) : EncodedLength.Statement (.orbImm v) := encoded_length 1 rfl
theorem EncodedLength.orbDir (a : Byte) : EncodedLength.Statement (.orbDir a) := encoded_length 1 rfl
theorem EncodedLength.orbIdx (p : Indexed) : EncodedLength.Statement (.orbIdx p) :=
  indexed_encoded_length p [0xEA] (by decide)
theorem EncodedLength.orbExt (a : Word) : EncodedLength.Statement (.orbExt a) := encoded_length 2 rfl
theorem EncodedLength.eoraImm (v : Byte) : EncodedLength.Statement (.eoraImm v) := encoded_length 1 rfl
theorem EncodedLength.eoraDir (a : Byte) : EncodedLength.Statement (.eoraDir a) := encoded_length 1 rfl
theorem EncodedLength.eoraIdx (p : Indexed) : EncodedLength.Statement (.eoraIdx p) :=
  indexed_encoded_length p [0xA8] (by decide)
theorem EncodedLength.eoraExt (a : Word) : EncodedLength.Statement (.eoraExt a) := encoded_length 2 rfl
theorem EncodedLength.eorbImm (v : Byte) : EncodedLength.Statement (.eorbImm v) := encoded_length 1 rfl
theorem EncodedLength.eorbDir (a : Byte) : EncodedLength.Statement (.eorbDir a) := encoded_length 1 rfl
theorem EncodedLength.eorbIdx (p : Indexed) : EncodedLength.Statement (.eorbIdx p) :=
  indexed_encoded_length p [0xE8] (by decide)
theorem EncodedLength.eorbExt (a : Word) : EncodedLength.Statement (.eorbExt a) := encoded_length 2 rfl
theorem EncodedLength.bitaImm (v : Byte) : EncodedLength.Statement (.bitaImm v) := encoded_length 1 rfl
theorem EncodedLength.bitaDir (a : Byte) : EncodedLength.Statement (.bitaDir a) := encoded_length 1 rfl
theorem EncodedLength.bitaIdx (p : Indexed) : EncodedLength.Statement (.bitaIdx p) :=
  indexed_encoded_length p [0xA5] (by decide)
theorem EncodedLength.bitaExt (a : Word) : EncodedLength.Statement (.bitaExt a) := encoded_length 2 rfl
theorem EncodedLength.bitbImm (v : Byte) : EncodedLength.Statement (.bitbImm v) := encoded_length 1 rfl
theorem EncodedLength.bitbDir (a : Byte) : EncodedLength.Statement (.bitbDir a) := encoded_length 1 rfl
theorem EncodedLength.bitbIdx (p : Indexed) : EncodedLength.Statement (.bitbIdx p) :=
  indexed_encoded_length p [0xE5] (by decide)
theorem EncodedLength.bitbExt (a : Word) : EncodedLength.Statement (.bitbExt a) := encoded_length 2 rfl
theorem EncodedLength.coma : EncodedLength.Statement .coma := encoded_length 0 rfl
theorem EncodedLength.comb : EncodedLength.Statement .comb := encoded_length 0 rfl
theorem EncodedLength.comDir (a : Byte) : EncodedLength.Statement (.comDir a) := encoded_length 1 rfl
theorem EncodedLength.comIdx (p : Indexed) : EncodedLength.Statement (.comIdx p) :=
  indexed_encoded_length p [0x63] (by decide)
theorem EncodedLength.comExt (a : Word) : EncodedLength.Statement (.comExt a) := encoded_length 2 rfl
theorem EncodedLength.andcc (v : Byte) : EncodedLength.Statement (.andcc v) := encoded_length 1 rfl
theorem EncodedLength.orcc (v : Byte) : EncodedLength.Statement (.orcc v) := encoded_length 1 rfl
theorem EncodedLength.lsra : EncodedLength.Statement .lsra := encoded_length 0 rfl
theorem EncodedLength.lsrb : EncodedLength.Statement .lsrb := encoded_length 0 rfl
theorem EncodedLength.lsrDir (a : Byte) : EncodedLength.Statement (.lsrDir a) := encoded_length 1 rfl
theorem EncodedLength.lsrIdx (p : Indexed) : EncodedLength.Statement (.lsrIdx p) :=
  indexed_encoded_length p [0x64] (by decide)
theorem EncodedLength.lsrExt (a : Word) : EncodedLength.Statement (.lsrExt a) := encoded_length 2 rfl
theorem EncodedLength.asra : EncodedLength.Statement .asra := encoded_length 0 rfl
theorem EncodedLength.asrb : EncodedLength.Statement .asrb := encoded_length 0 rfl
theorem EncodedLength.asrDir (a : Byte) : EncodedLength.Statement (.asrDir a) := encoded_length 1 rfl
theorem EncodedLength.asrIdx (p : Indexed) : EncodedLength.Statement (.asrIdx p) :=
  indexed_encoded_length p [0x67] (by decide)
theorem EncodedLength.asrExt (a : Word) : EncodedLength.Statement (.asrExt a) := encoded_length 2 rfl
theorem EncodedLength.asla : EncodedLength.Statement .asla := encoded_length 0 rfl
theorem EncodedLength.aslb : EncodedLength.Statement .aslb := encoded_length 0 rfl
theorem EncodedLength.aslDir (a : Byte) : EncodedLength.Statement (.aslDir a) := encoded_length 1 rfl
theorem EncodedLength.aslIdx (p : Indexed) : EncodedLength.Statement (.aslIdx p) :=
  indexed_encoded_length p [0x68] (by decide)
theorem EncodedLength.aslExt (a : Word) : EncodedLength.Statement (.aslExt a) := encoded_length 2 rfl
theorem EncodedLength.rola : EncodedLength.Statement .rola := encoded_length 0 rfl
theorem EncodedLength.rolb : EncodedLength.Statement .rolb := encoded_length 0 rfl
theorem EncodedLength.rolDir (a : Byte) : EncodedLength.Statement (.rolDir a) := encoded_length 1 rfl
theorem EncodedLength.rolIdx (p : Indexed) : EncodedLength.Statement (.rolIdx p) :=
  indexed_encoded_length p [0x69] (by decide)
theorem EncodedLength.rolExt (a : Word) : EncodedLength.Statement (.rolExt a) := encoded_length 2 rfl
theorem EncodedLength.rora : EncodedLength.Statement .rora := encoded_length 0 rfl
theorem EncodedLength.rorb : EncodedLength.Statement .rorb := encoded_length 0 rfl
theorem EncodedLength.rorDir (a : Byte) : EncodedLength.Statement (.rorDir a) := encoded_length 1 rfl
theorem EncodedLength.rorIdx (p : Indexed) : EncodedLength.Statement (.rorIdx p) :=
  indexed_encoded_length p [0x66] (by decide)
theorem EncodedLength.rorExt (a : Word) : EncodedLength.Statement (.rorExt a) := encoded_length 2 rfl
theorem EncodedLength.tfr (r0 : Reg) (r1 : Reg) : EncodedLength.Statement (.tfr r0 r1) := encoded_length 1 rfl
theorem EncodedLength.exg (r0 : Reg) (r1 : Reg) : EncodedLength.Statement (.exg r0 r1) := encoded_length 1 rfl
theorem EncodedLength.pshs (m : Byte) : EncodedLength.Statement (.pshs m) := encoded_length 1 rfl
theorem EncodedLength.puls (m : Byte) : EncodedLength.Statement (.puls m) := encoded_length 1 rfl
theorem EncodedLength.pshu (m : Byte) : EncodedLength.Statement (.pshu m) := encoded_length 1 rfl
theorem EncodedLength.pulu (m : Byte) : EncodedLength.Statement (.pulu m) := encoded_length 1 rfl
theorem EncodedLength.bra (o : Byte) : EncodedLength.Statement (.bra o) := encoded_length 1 rfl
theorem EncodedLength.brn (o : Byte) : EncodedLength.Statement (.brn o) := encoded_length 1 rfl
theorem EncodedLength.bhi (o : Byte) : EncodedLength.Statement (.bhi o) := encoded_length 1 rfl
theorem EncodedLength.bls (o : Byte) : EncodedLength.Statement (.bls o) := encoded_length 1 rfl
theorem EncodedLength.bcc (o : Byte) : EncodedLength.Statement (.bcc o) := encoded_length 1 rfl
theorem EncodedLength.bcs (o : Byte) : EncodedLength.Statement (.bcs o) := encoded_length 1 rfl
theorem EncodedLength.bne (o : Byte) : EncodedLength.Statement (.bne o) := encoded_length 1 rfl
theorem EncodedLength.beq (o : Byte) : EncodedLength.Statement (.beq o) := encoded_length 1 rfl
theorem EncodedLength.bvc (o : Byte) : EncodedLength.Statement (.bvc o) := encoded_length 1 rfl
theorem EncodedLength.bvs (o : Byte) : EncodedLength.Statement (.bvs o) := encoded_length 1 rfl
theorem EncodedLength.bpl (o : Byte) : EncodedLength.Statement (.bpl o) := encoded_length 1 rfl
theorem EncodedLength.bmi (o : Byte) : EncodedLength.Statement (.bmi o) := encoded_length 1 rfl
theorem EncodedLength.bge (o : Byte) : EncodedLength.Statement (.bge o) := encoded_length 1 rfl
theorem EncodedLength.blt (o : Byte) : EncodedLength.Statement (.blt o) := encoded_length 1 rfl
theorem EncodedLength.bgt (o : Byte) : EncodedLength.Statement (.bgt o) := encoded_length 1 rfl
theorem EncodedLength.ble (o : Byte) : EncodedLength.Statement (.ble o) := encoded_length 1 rfl
theorem EncodedLength.lbra (o : Word) : EncodedLength.Statement (.lbra o) := encoded_length 2 rfl
theorem EncodedLength.lbrn (o : Word) : EncodedLength.Statement (.lbrn o) := encoded_length 3 rfl
theorem EncodedLength.lbhi (o : Word) : EncodedLength.Statement (.lbhi o) := encoded_length 3 rfl
theorem EncodedLength.lbls (o : Word) : EncodedLength.Statement (.lbls o) := encoded_length 3 rfl
theorem EncodedLength.lbcc (o : Word) : EncodedLength.Statement (.lbcc o) := encoded_length 3 rfl
theorem EncodedLength.lbcs (o : Word) : EncodedLength.Statement (.lbcs o) := encoded_length 3 rfl
theorem EncodedLength.lbne (o : Word) : EncodedLength.Statement (.lbne o) := encoded_length 3 rfl
theorem EncodedLength.lbeq (o : Word) : EncodedLength.Statement (.lbeq o) := encoded_length 3 rfl
theorem EncodedLength.lbvc (o : Word) : EncodedLength.Statement (.lbvc o) := encoded_length 3 rfl
theorem EncodedLength.lbvs (o : Word) : EncodedLength.Statement (.lbvs o) := encoded_length 3 rfl
theorem EncodedLength.lbpl (o : Word) : EncodedLength.Statement (.lbpl o) := encoded_length 3 rfl
theorem EncodedLength.lbmi (o : Word) : EncodedLength.Statement (.lbmi o) := encoded_length 3 rfl
theorem EncodedLength.lbge (o : Word) : EncodedLength.Statement (.lbge o) := encoded_length 3 rfl
theorem EncodedLength.lblt (o : Word) : EncodedLength.Statement (.lblt o) := encoded_length 3 rfl
theorem EncodedLength.lbgt (o : Word) : EncodedLength.Statement (.lbgt o) := encoded_length 3 rfl
theorem EncodedLength.lble (o : Word) : EncodedLength.Statement (.lble o) := encoded_length 3 rfl
theorem EncodedLength.bsr (o : Byte) : EncodedLength.Statement (.bsr o) := encoded_length 1 rfl
theorem EncodedLength.lbsr (o : Word) : EncodedLength.Statement (.lbsr o) := encoded_length 2 rfl
theorem EncodedLength.jmpDir (a : Byte) : EncodedLength.Statement (.jmpDir a) := encoded_length 1 rfl
theorem EncodedLength.jmpIdx (p : Indexed) : EncodedLength.Statement (.jmpIdx p) :=
  indexed_encoded_length p [0x6E] (by decide)
theorem EncodedLength.jmpExt (a : Word) : EncodedLength.Statement (.jmpExt a) := encoded_length 2 rfl
theorem EncodedLength.jsrDir (a : Byte) : EncodedLength.Statement (.jsrDir a) := encoded_length 1 rfl
theorem EncodedLength.jsrIdx (p : Indexed) : EncodedLength.Statement (.jsrIdx p) :=
  indexed_encoded_length p [0xAD] (by decide)
theorem EncodedLength.jsrExt (a : Word) : EncodedLength.Statement (.jsrExt a) := encoded_length 2 rfl
theorem EncodedLength.rts : EncodedLength.Statement .rts := encoded_length 0 rfl
theorem EncodedLength.nop : EncodedLength.Statement .nop := encoded_length 0 rfl
theorem EncodedLength.swi : EncodedLength.Statement .swi := encoded_length 0 rfl
theorem EncodedLength.swi2 : EncodedLength.Statement .swi2 := encoded_length 1 rfl
theorem EncodedLength.swi3 : EncodedLength.Statement .swi3 := encoded_length 1 rfl
theorem EncodedLength.rti : EncodedLength.Statement .rti := encoded_length 0 rfl
theorem EncodedLength.cwai (v : Byte) : EncodedLength.Statement (.cwai v) := encoded_length 1 rfl
theorem EncodedLength.sync : EncodedLength.Statement .sync := encoded_length 0 rfl

end Sys2Proof.Laws
end

