-- ==== Sys2Proof/Laws/Stack.lean ====
section
/-! SUPPORT. Pushes and pulls: an operation that pushes bytes leaves `State.pushed` of them when every write is taken, and
a pull outside the hardware window changes the stack pointer alone. -/

namespace Sys2Proof.Machine

theorem State.pushed_cons (s : State) (p : StackPtr) (v : Byte) (vs : List Byte) :
    s.pushed p (v :: vs) =
      ((s.modCore fun c => c.setSp p (c.sp p - 1#16)).stored (s.core.sp p - 1#16) v).pushed p vs := rfl

@[simp] theorem State.pushed_nil (s : State) (p : StackPtr) : s.pushed p [] = s := rfl

theorem State.pushed_append (s : State) (p : StackPtr) (vs ws : List Byte) :
    s.pushed p (vs ++ ws) = (s.pushed p vs).pushed p ws := by
  induction vs generalizing s with
  | nil => rfl
  | cons v vs ih => exact ih _

@[simp] theorem State.pushed_cfg (s : State) (p : StackPtr) (vs : List Byte) : (s.pushed p vs).cfg = s.cfg := by
  induction vs generalizing s with
  | nil => rfl
  | cons v vs ih => rw [State.pushed_cons, ih]; simp

@[simp] theorem State.pushed_active (s : State) (p : StackPtr) (vs : List Byte) :
    (s.pushed p vs).active = s.active := by
  induction vs generalizing s with
  | nil => rfl
  | cons v vs ih => rw [State.pushed_cons, ih]; simp

@[simp] theorem State.pushed_myCfg (s : State) (p : StackPtr) (vs : List Byte) :
    (s.pushed p vs).myCfg = s.myCfg := by
  simp [State.myCfg]

/-- Pushing `n` bytes moves the stack pointer down by `n` and changes no other register but the lines. -/
theorem State.pushed_core (s : State) (p : StackPtr) (vs : List Byte) :
    (s.core.setSp p (s.core.sp p - BitVec.ofNat 16 vs.length)).SameButLines (s.pushed p vs).core := by
  induction vs generalizing s with
  | nil =>
    rw [State.pushed_nil, show s.core.sp p - BitVec.ofNat 16 ([] : List Byte).length = s.core.sp p by simp,
      Core.setSp_self]
    exact .refl _
  | cons v vs ih =>
    have h := ih ((s.modCore fun c => c.setSp p (c.sp p - 1#16)).stored (s.core.sp p - 1#16) v)
    rw [State.pushed_cons]
    refine Core.SameButLines.trans ?_ h
    have hc := ((s.modCore fun c => c.setSp p (c.sp p - 1#16)).stored_effect (s.core.sp p - 1#16) v).core
    rw [State.modCore_core] at hc
    rw [hc.sp]
    simp only [Core.setSp_sp]
    obtain ⟨pi, pf, mi, mf, i, hi, he⟩ := hc
    rw [he]
    refine ⟨pi, pf, mi, mf, i, ?_, ?_⟩
    · simpa using hi
    · have hl : s.core.sp p - BitVec.ofNat 16 (v :: vs).length
          = s.core.sp p - 1#16 - BitVec.ofNat 16 vs.length := by
        simp only [List.length_cons]
        apply BitVec.eq_of_toNat_eq
        simp only [BitVec.toNat_sub, BitVec.toNat_ofNat]
        omega
      rw [hl]
      cases p <;> rfl

theorem State.pushed_sp (s : State) (p : StackPtr) (vs : List Byte) :
    (s.pushed p vs).core.sp p = s.core.sp p - BitVec.ofNat 16 vs.length := by
  rw [(s.pushed_core p vs).sp, Core.setSp_sp]

theorem acceptsPush_append {c : BoardCfg} {sp : Word} {vs ws : List Byte} :
    c.acceptsPush sp (vs ++ ws) = true ↔
      c.acceptsPush sp vs = true ∧ c.acceptsPush (sp - BitVec.ofNat 16 vs.length) ws = true := by
  induction vs generalizing sp with
  | nil => simp [BoardCfg.acceptsPush]
  | cons v vs ih =>
    have hl : sp - 1#16 - BitVec.ofNat 16 vs.length = sp - BitVec.ofNat 16 (v :: vs).length := by
      simp only [List.length_cons]
      apply BitVec.eq_of_toNat_eq
      simp only [BitVec.toNat_sub, BitVec.toNat_ofNat]
      omega
    simp only [List.cons_append, BoardCfg.acceptsPush, Bool.and_eq_true, ih, hl, and_assoc]

/-- The operation pushes these bytes, the first one first, when no write of theirs ends in `BankError`. -/
def Pushes (m : Op Unit) (p : StackPtr) (vs : List Byte) : Prop :=
  ∀ s : State, s.myCfg.acceptsPush (s.core.sp p) vs = true → m s = .ok () (s.pushed p vs)

theorem pushes_nil (p : StackPtr) : Pushes (pure ()) p [] := fun _ _ => rfl

theorem Pushes.seq {m k : Op Unit} {p : StackPtr} {vs ws : List Byte} (hm : Pushes m p vs) (hk : Pushes k p ws) :
    Pushes (m >>= fun _ => k) p (vs ++ ws) := by
  intro s h
  rw [acceptsPush_append] at h
  rw [op_bind_ok (hm s h.1), State.pushed_append]
  refine hk _ ?_
  rw [State.pushed_myCfg, State.pushed_sp]
  exact h.2

theorem Pushes.cond {m : Op Unit} {p : StackPtr} {vs : List Byte} (b : Bool) (hm : Pushes m p vs) :
    Pushes (if b = true then m else pure ()) p (if b = true then vs else []) := by
  cases b
  · exact pushes_nil p
  · exact hm

theorem pushes_push8 (p : StackPtr) (v : Byte) : Pushes (push8 p v) p [v] := by
  intro s h
  simp only [BoardCfg.acceptsPush, Bool.and_true, Bool.not_eq_true'] at h
  simp only [push8, modifyCore_bind, getCore_bind, State.modCore_core, Core.setSp_sp]
  exact memWrite8_ok (by simpa using h)

theorem pushes_push16 (p : StackPtr) (v : Word) : Pushes (push16 p v) p (pushOrder v) :=
  (pushes_push8 p (loByte v)).seq (pushes_push8 p (hiByte v))

/-- `PushAll` (45_system.md R378). -/
theorem pushAll_ok (s : State) (h : s.myCfg.acceptsPush s.core.s (fullFrame s.core) = true) :
    pushAll s = .ok () (s.pushed .s (fullFrame s.core)) := by
  have key : Pushes (do
      push16 .s s.core.pc
      push16 .s s.core.u
      push16 .s s.core.y
      push16 .s s.core.x
      push8 .s s.core.dp
      push8 .s s.core.b
      push8 .s s.core.a
      push8 .s s.core.cc.toByte) .s
      (pushOrder s.core.pc ++ (pushOrder s.core.u ++ (pushOrder s.core.y ++ (pushOrder s.core.x ++
        ([s.core.dp] ++ ([s.core.b] ++ ([s.core.a] ++ [s.core.cc.toByte]))))))) :=
    (pushes_push16 _ _).seq ((pushes_push16 _ _).seq ((pushes_push16 _ _).seq ((pushes_push16 _ _).seq
      ((pushes_push8 _ _).seq ((pushes_push8 _ _).seq ((pushes_push8 _ _).seq (pushes_push8 _ _)))))))
  exact key s h

/-! ### Pulls -/

theorem pull8_plain {p : StackPtr} {s : State} (h : s.myCfg.plain (s.core.sp p) = true) :
    pull8 p s = .ok (s.at (s.core.sp p)) (s.modCore fun c => c.setSp p (c.sp p + 1#16)) := by
  simp only [pull8, getCore_bind]
  rw [op_bind_ok (memRead8_plain h)]
  rfl

theorem pull16_plain {p : StackPtr} {s : State} (h : s.myCfg.plain (s.core.sp p) = true)
    (h' : s.myCfg.plain (s.core.sp p + 1#16) = true) :
    pull16 p s = .ok (s.at16 (s.core.sp p)) (s.modCore fun c => c.setSp p (c.sp p + 2#16)) := by
  rw [pull16, op_bind_ok (pull8_plain h), op_bind_ok (pull8_plain (by simpa using h'))]
  simp [State.at16, BitVec.add_assoc]

/-- A pull always answers. -/
theorem pull8_ok (p : StackPtr) (s : State) : ∃ v s', pull8 p s = .ok v s' := by
  obtain ⟨v, s', h, _⟩ := memRead8_ok (s.core.sp p) s
  exact ⟨v, _, by simp only [pull8, getCore_bind]; rw [op_bind_ok h]; rfl⟩

theorem pull16_ok (p : StackPtr) (s : State) : ∃ v s', pull16 p s = .ok v s' := by
  obtain ⟨hi, s1, h1⟩ := pull8_ok p s
  obtain ⟨lo, s2, h2⟩ := pull8_ok p s1
  exact ⟨_, s2, by rw [pull16, op_bind_ok h1, op_bind_ok h2]; rfl⟩

end Sys2Proof.Machine
end

