-- ==== Sys2Proof/Tests/Slice0.lean ====
section
/-! SUPPORT. Tests. The words of the decode tests are written out from 30_encoding.md R112, R120 to R135 and R140 to R142;
the step tests are the vectors of 95_test_vectors.md named above each; the witnesses show that the hypotheses of the
statements can be met, clause by clause, at the boundary values. -/

namespace Sys2Proof.Tests

open Machine

set_option Elab.async false

/-! ### Well-formed terms -/

/-- `TFR` of a byte into a word is no instruction (43_transfer_stack.md R300). -/
theorem test_tfr_of_two_widths_refused : Instr.wellFormed (.tfr (.r8 .a) (.r16 .x)) = false := by decide

/-- Nor is `EXG` of a word and a byte (R300). -/
theorem test_exg_of_two_widths_refused : Instr.wellFormed (.exg (.r16 .d) (.r8 .cc)) = false := by decide

theorem test_tfr_of_one_width_accepted : Instr.wellFormed (.tfr (.r8 .a) (.r8 .dp)) = true := by decide

/-! ### Decoding: every row of the opcode table -/

/-- The bytes decode to the instruction, with nothing left. -/
def reads (bytes : List Byte) (i : Instr) : Bool := decide (decode bytes = .instr i [])

theorem test_decode_page1_row0 :
    (reads [0x00, 0x96] (.negDir 0x96) && reads [0x03, 0x96] (.comDir 0x96) && reads [0x04, 0x96] (.lsrDir 0x96) &&
     reads [0x06, 0x96] (.rorDir 0x96) && reads [0x07, 0x96] (.asrDir 0x96) && reads [0x08, 0x96] (.aslDir 0x96) &&
     reads [0x09, 0x96] (.rolDir 0x96) && reads [0x0A, 0x96] (.decDir 0x96) && reads [0x0C, 0x96] (.incDir 0x96) &&
     reads [0x0D, 0x96] (.tstDir 0x96) && reads [0x0E, 0x96] (.jmpDir 0x96) && reads [0x0F, 0x96] (.clrDir 0x96)) = true := by decide

theorem test_decode_page1_row1 :
    (reads [0x12] (.nop) && reads [0x13] (.sync) && reads [0x16, 0x96, 0x0F] (.lbra 0x960F) &&
     reads [0x17, 0x96, 0x0F] (.lbsr 0x960F) && reads [0x19] (.daa) && reads [0x1A, 0x96] (.orcc 0x96) &&
     reads [0x1C, 0x96] (.andcc 0x96) && reads [0x1D] (.sex) && reads [0x1E, 0x8B] (.exg (.r8 .a) (.r8 .dp)) &&
     reads [0x1F, 0x8B] (.tfr (.r8 .a) (.r8 .dp))) = true := by decide

theorem test_decode_page1_row2 :
    (reads [0x20, 0x96] (.bra 0x96) && reads [0x21, 0x96] (.brn 0x96) && reads [0x22, 0x96] (.bhi 0x96) &&
     reads [0x23, 0x96] (.bls 0x96) && reads [0x24, 0x96] (.bcc 0x96) && reads [0x25, 0x96] (.bcs 0x96) &&
     reads [0x26, 0x96] (.bne 0x96) && reads [0x27, 0x96] (.beq 0x96) && reads [0x28, 0x96] (.bvc 0x96) &&
     reads [0x29, 0x96] (.bvs 0x96) && reads [0x2A, 0x96] (.bpl 0x96) && reads [0x2B, 0x96] (.bmi 0x96) &&
     reads [0x2C, 0x96] (.bge 0x96) && reads [0x2D, 0x96] (.blt 0x96) && reads [0x2E, 0x96] (.bgt 0x96) &&
     reads [0x2F, 0x96] (.ble 0x96)) = true := by decide

theorem test_decode_page1_row3 :
    (reads [0x30, 0x84] (.leax (.zero .x false)) && reads [0x31, 0x1F] (.leay (.off5 .x (-1))) &&
     reads [0x32, 0xA9, 0x12, 0x34] (.leas (.off16 .y false 0x1234)) && reads [0x33, 0xC0] (.leau (.inc1 .u)) &&
     reads [0x34, 0x96] (.pshs 0x96) && reads [0x35, 0x96] (.puls 0x96) && reads [0x36, 0x96] (.pshu 0x96) &&
     reads [0x37, 0x96] (.pulu 0x96) && reads [0x39] (.rts) && reads [0x3A] (.abx) && reads [0x3B] (.rti) &&
     reads [0x3C, 0x96] (.cwai 0x96) && reads [0x3D] (.mul) && reads [0x3F] (.swi)) = true := by decide

theorem test_decode_page1_row4 :
    (reads [0x40] (.nega) && reads [0x43] (.coma) && reads [0x44] (.lsra) && reads [0x46] (.rora) &&
     reads [0x47] (.asra) && reads [0x48] (.asla) && reads [0x49] (.rola) && reads [0x4A] (.deca) &&
     reads [0x4C] (.inca) && reads [0x4D] (.tsta) && reads [0x4F] (.clra)) = true := by decide

theorem test_decode_page1_row5 :
    (reads [0x50] (.negb) && reads [0x53] (.comb) && reads [0x54] (.lsrb) && reads [0x56] (.rorb) &&
     reads [0x57] (.asrb) && reads [0x58] (.aslb) && reads [0x59] (.rolb) && reads [0x5A] (.decb) &&
     reads [0x5C] (.incb) && reads [0x5D] (.tstb) && reads [0x5F] (.clrb)) = true := by decide

theorem test_decode_page1_row6 :
    (reads [0x60, 0xE1] (.negIdx (.inc2 .s false)) && reads [0x63, 0x82] (.comIdx (.dec1 .x)) &&
     reads [0x64, 0xB3] (.lsrIdx (.dec2 .y true)) && reads [0x66, 0xC5] (.rorIdx (.accB .u false)) &&
     reads [0x67, 0xF6] (.asrIdx (.accA .s true)) && reads [0x68, 0x88, 0x80] (.aslIdx (.off8 .x false 0x80)) &&
     reads [0x69, 0xAB] (.rolIdx (.accD .y false)) && reads [0x6A, 0x8C, 0x12] (.decIdx (.pc8 .x false 0x12)) &&
     reads [0x6C, 0x9D, 0x12, 0x34] (.incIdx (.pc16 .x true 0x1234)) &&
     reads [0x6D, 0x9F, 0x12, 0x34] (.tstIdx (.extInd 0x1234)) && reads [0x6E, 0x70] (.jmpIdx (.off5 .s (-16))) &&
     reads [0x6F, 0xF1] (.clrIdx (.inc2 .s true))) = true := by decide

theorem test_decode_page1_row7 :
    (reads [0x70, 0x96, 0x0F] (.negExt 0x960F) && reads [0x73, 0x96, 0x0F] (.comExt 0x960F) &&
     reads [0x74, 0x96, 0x0F] (.lsrExt 0x960F) && reads [0x76, 0x96, 0x0F] (.rorExt 0x960F) &&
     reads [0x77, 0x96, 0x0F] (.asrExt 0x960F) && reads [0x78, 0x96, 0x0F] (.aslExt 0x960F) &&
     reads [0x79, 0x96, 0x0F] (.rolExt 0x960F) && reads [0x7A, 0x96, 0x0F] (.decExt 0x960F) &&
     reads [0x7C, 0x96, 0x0F] (.incExt 0x960F) && reads [0x7D, 0x96, 0x0F] (.tstExt 0x960F) &&
     reads [0x7E, 0x96, 0x0F] (.jmpExt 0x960F) && reads [0x7F, 0x96, 0x0F] (.clrExt 0x960F)) = true := by decide

theorem test_decode_page1_row8 :
    (reads [0x80, 0x96] (.subaImm 0x96) && reads [0x81, 0x96] (.cmpaImm 0x96) && reads [0x82, 0x96] (.sbcaImm 0x96) &&
     reads [0x83, 0x96, 0x0F] (.subdImm 0x960F) && reads [0x84, 0x96] (.andaImm 0x96) &&
     reads [0x85, 0x96] (.bitaImm 0x96) && reads [0x86, 0x96] (.ldaImm 0x96) && reads [0x88, 0x96] (.eoraImm 0x96) &&
     reads [0x89, 0x96] (.adcaImm 0x96) && reads [0x8A, 0x96] (.oraImm 0x96) && reads [0x8B, 0x96] (.addaImm 0x96) &&
     reads [0x8C, 0x96, 0x0F] (.cmpxImm 0x960F) && reads [0x8D, 0x96] (.bsr 0x96) &&
     reads [0x8E, 0x96, 0x0F] (.ldxImm 0x960F)) = true := by decide

theorem test_decode_page1_row9 :
    (reads [0x90, 0x96] (.subaDir 0x96) && reads [0x91, 0x96] (.cmpaDir 0x96) && reads [0x92, 0x96] (.sbcaDir 0x96) &&
     reads [0x93, 0x96] (.subdDir 0x96) && reads [0x94, 0x96] (.andaDir 0x96) && reads [0x95, 0x96] (.bitaDir 0x96) &&
     reads [0x96, 0x96] (.ldaDir 0x96) && reads [0x97, 0x96] (.staDir 0x96) && reads [0x98, 0x96] (.eoraDir 0x96) &&
     reads [0x99, 0x96] (.adcaDir 0x96) && reads [0x9A, 0x96] (.oraDir 0x96) && reads [0x9B, 0x96] (.addaDir 0x96) &&
     reads [0x9C, 0x96] (.cmpxDir 0x96) && reads [0x9D, 0x96] (.jsrDir 0x96) && reads [0x9E, 0x96] (.ldxDir 0x96) &&
     reads [0x9F, 0x96] (.stxDir 0x96)) = true := by decide

theorem test_decode_page1_rowA :
    (reads [0xA0, 0xD8, 0x7F] (.subaIdx (.off8 .u true 0x7F)) && reads [0xA1, 0x84] (.cmpaIdx (.zero .x false)) &&
     reads [0xA2, 0x1F] (.sbcaIdx (.off5 .x (-1))) &&
     reads [0xA3, 0xA9, 0x12, 0x34] (.subdIdx (.off16 .y false 0x1234)) && reads [0xA4, 0xC0] (.andaIdx (.inc1 .u)) &&
     reads [0xA5, 0xE1] (.bitaIdx (.inc2 .s false)) && reads [0xA6, 0x82] (.ldaIdx (.dec1 .x)) &&
     reads [0xA7, 0xB3] (.staIdx (.dec2 .y true)) && reads [0xA8, 0xC5] (.eoraIdx (.accB .u false)) &&
     reads [0xA9, 0xF6] (.adcaIdx (.accA .s true)) && reads [0xAA, 0x88, 0x80] (.oraIdx (.off8 .x false 0x80)) &&
     reads [0xAB, 0xAB] (.addaIdx (.accD .y false)) && reads [0xAC, 0x8C, 0x12] (.cmpxIdx (.pc8 .x false 0x12)) &&
     reads [0xAD, 0x9D, 0x12, 0x34] (.jsrIdx (.pc16 .x true 0x1234)) &&
     reads [0xAE, 0x9F, 0x12, 0x34] (.ldxIdx (.extInd 0x1234)) && reads [0xAF, 0x70] (.stxIdx (.off5 .s (-16)))) = true := by decide

theorem test_decode_page1_rowB :
    (reads [0xB0, 0x96, 0x0F] (.subaExt 0x960F) && reads [0xB1, 0x96, 0x0F] (.cmpaExt 0x960F) &&
     reads [0xB2, 0x96, 0x0F] (.sbcaExt 0x960F) && reads [0xB3, 0x96, 0x0F] (.subdExt 0x960F) &&
     reads [0xB4, 0x96, 0x0F] (.andaExt 0x960F) && reads [0xB5, 0x96, 0x0F] (.bitaExt 0x960F) &&
     reads [0xB6, 0x96, 0x0F] (.ldaExt 0x960F) && reads [0xB7, 0x96, 0x0F] (.staExt 0x960F) &&
     reads [0xB8, 0x96, 0x0F] (.eoraExt 0x960F) && reads [0xB9, 0x96, 0x0F] (.adcaExt 0x960F) &&
     reads [0xBA, 0x96, 0x0F] (.oraExt 0x960F) && reads [0xBB, 0x96, 0x0F] (.addaExt 0x960F) &&
     reads [0xBC, 0x96, 0x0F] (.cmpxExt 0x960F) && reads [0xBD, 0x96, 0x0F] (.jsrExt 0x960F) &&
     reads [0xBE, 0x96, 0x0F] (.ldxExt 0x960F) && reads [0xBF, 0x96, 0x0F] (.stxExt 0x960F)) = true := by decide

theorem test_decode_page1_rowC :
    (reads [0xC0, 0x96] (.subbImm 0x96) && reads [0xC1, 0x96] (.cmpbImm 0x96) && reads [0xC2, 0x96] (.sbcbImm 0x96) &&
     reads [0xC3, 0x96, 0x0F] (.adddImm 0x960F) && reads [0xC4, 0x96] (.andbImm 0x96) &&
     reads [0xC5, 0x96] (.bitbImm 0x96) && reads [0xC6, 0x96] (.ldbImm 0x96) && reads [0xC8, 0x96] (.eorbImm 0x96) &&
     reads [0xC9, 0x96] (.adcbImm 0x96) && reads [0xCA, 0x96] (.orbImm 0x96) && reads [0xCB, 0x96] (.addbImm 0x96) &&
     reads [0xCC, 0x96, 0x0F] (.lddImm 0x960F) && reads [0xCE, 0x96, 0x0F] (.lduImm 0x960F)) = true := by decide

theorem test_decode_page1_rowD :
    (reads [0xD0, 0x96] (.subbDir 0x96) && reads [0xD1, 0x96] (.cmpbDir 0x96) && reads [0xD2, 0x96] (.sbcbDir 0x96) &&
     reads [0xD3, 0x96] (.adddDir 0x96) && reads [0xD4, 0x96] (.andbDir 0x96) && reads [0xD5, 0x96] (.bitbDir 0x96) &&
     reads [0xD6, 0x96] (.ldbDir 0x96) && reads [0xD7, 0x96] (.stbDir 0x96) && reads [0xD8, 0x96] (.eorbDir 0x96) &&
     reads [0xD9, 0x96] (.adcbDir 0x96) && reads [0xDA, 0x96] (.orbDir 0x96) && reads [0xDB, 0x96] (.addbDir 0x96) &&
     reads [0xDC, 0x96] (.lddDir 0x96) && reads [0xDD, 0x96] (.stdDir 0x96) && reads [0xDE, 0x96] (.lduDir 0x96) &&
     reads [0xDF, 0x96] (.stuDir 0x96)) = true := by decide

theorem test_decode_page1_rowE :
    (reads [0xE0, 0xF1] (.subbIdx (.inc2 .s true)) && reads [0xE1, 0xD8, 0x7F] (.cmpbIdx (.off8 .u true 0x7F)) &&
     reads [0xE2, 0x84] (.sbcbIdx (.zero .x false)) && reads [0xE3, 0x1F] (.adddIdx (.off5 .x (-1))) &&
     reads [0xE4, 0xA9, 0x12, 0x34] (.andbIdx (.off16 .y false 0x1234)) && reads [0xE5, 0xC0] (.bitbIdx (.inc1 .u)) &&
     reads [0xE6, 0xE1] (.ldbIdx (.inc2 .s false)) && reads [0xE7, 0x82] (.stbIdx (.dec1 .x)) &&
     reads [0xE8, 0xB3] (.eorbIdx (.dec2 .y true)) && reads [0xE9, 0xC5] (.adcbIdx (.accB .u false)) &&
     reads [0xEA, 0xF6] (.orbIdx (.accA .s true)) && reads [0xEB, 0x88, 0x80] (.addbIdx (.off8 .x false 0x80)) &&
     reads [0xEC, 0xAB] (.lddIdx (.accD .y false)) && reads [0xED, 0x8C, 0x12] (.stdIdx (.pc8 .x false 0x12)) &&
     reads [0xEE, 0x9D, 0x12, 0x34] (.lduIdx (.pc16 .x true 0x1234)) &&
     reads [0xEF, 0x9F, 0x12, 0x34] (.stuIdx (.extInd 0x1234))) = true := by decide

theorem test_decode_page1_rowF :
    (reads [0xF0, 0x96, 0x0F] (.subbExt 0x960F) && reads [0xF1, 0x96, 0x0F] (.cmpbExt 0x960F) &&
     reads [0xF2, 0x96, 0x0F] (.sbcbExt 0x960F) && reads [0xF3, 0x96, 0x0F] (.adddExt 0x960F) &&
     reads [0xF4, 0x96, 0x0F] (.andbExt 0x960F) && reads [0xF5, 0x96, 0x0F] (.bitbExt 0x960F) &&
     reads [0xF6, 0x96, 0x0F] (.ldbExt 0x960F) && reads [0xF7, 0x96, 0x0F] (.stbExt 0x960F) &&
     reads [0xF8, 0x96, 0x0F] (.eorbExt 0x960F) && reads [0xF9, 0x96, 0x0F] (.adcbExt 0x960F) &&
     reads [0xFA, 0x96, 0x0F] (.orbExt 0x960F) && reads [0xFB, 0x96, 0x0F] (.addbExt 0x960F) &&
     reads [0xFC, 0x96, 0x0F] (.lddExt 0x960F) && reads [0xFD, 0x96, 0x0F] (.stdExt 0x960F) &&
     reads [0xFE, 0x96, 0x0F] (.lduExt 0x960F) && reads [0xFF, 0x96, 0x0F] (.stuExt 0x960F)) = true := by decide

theorem test_decode_page2_row2 :
    (reads [0x10, 0x21, 0x96, 0x0F] (.lbrn 0x960F) && reads [0x10, 0x22, 0x96, 0x0F] (.lbhi 0x960F) &&
     reads [0x10, 0x23, 0x96, 0x0F] (.lbls 0x960F) && reads [0x10, 0x24, 0x96, 0x0F] (.lbcc 0x960F) &&
     reads [0x10, 0x25, 0x96, 0x0F] (.lbcs 0x960F) && reads [0x10, 0x26, 0x96, 0x0F] (.lbne 0x960F) &&
     reads [0x10, 0x27, 0x96, 0x0F] (.lbeq 0x960F) && reads [0x10, 0x28, 0x96, 0x0F] (.lbvc 0x960F) &&
     reads [0x10, 0x29, 0x96, 0x0F] (.lbvs 0x960F) && reads [0x10, 0x2A, 0x96, 0x0F] (.lbpl 0x960F) &&
     reads [0x10, 0x2B, 0x96, 0x0F] (.lbmi 0x960F) && reads [0x10, 0x2C, 0x96, 0x0F] (.lbge 0x960F) &&
     reads [0x10, 0x2D, 0x96, 0x0F] (.lblt 0x960F) && reads [0x10, 0x2E, 0x96, 0x0F] (.lbgt 0x960F) &&
     reads [0x10, 0x2F, 0x96, 0x0F] (.lble 0x960F)) = true := by decide

theorem test_decode_page2_row3 :
    (reads [0x10, 0x3F] (.swi2)) = true := by decide

theorem test_decode_page2_row8 :
    (reads [0x10, 0x83, 0x96, 0x0F] (.cmpdImm 0x960F) && reads [0x10, 0x8C, 0x96, 0x0F] (.cmpyImm 0x960F) &&
     reads [0x10, 0x8E, 0x96, 0x0F] (.ldyImm 0x960F)) = true := by decide

theorem test_decode_page2_row9 :
    (reads [0x10, 0x93, 0x96] (.cmpdDir 0x96) && reads [0x10, 0x9C, 0x96] (.cmpyDir 0x96) &&
     reads [0x10, 0x9E, 0x96] (.ldyDir 0x96) && reads [0x10, 0x9F, 0x96] (.styDir 0x96)) = true := by decide

theorem test_decode_page2_rowA :
    (reads [0x10, 0xA3, 0x70] (.cmpdIdx (.off5 .s (-16))) && reads [0x10, 0xAC, 0xF1] (.cmpyIdx (.inc2 .s true)) &&
     reads [0x10, 0xAE, 0xD8, 0x7F] (.ldyIdx (.off8 .u true 0x7F)) &&
     reads [0x10, 0xAF, 0x84] (.styIdx (.zero .x false))) = true := by decide

theorem test_decode_page2_rowB :
    (reads [0x10, 0xB3, 0x96, 0x0F] (.cmpdExt 0x960F) && reads [0x10, 0xBC, 0x96, 0x0F] (.cmpyExt 0x960F) &&
     reads [0x10, 0xBE, 0x96, 0x0F] (.ldyExt 0x960F) && reads [0x10, 0xBF, 0x96, 0x0F] (.styExt 0x960F)) = true := by decide

theorem test_decode_page2_rowC :
    (reads [0x10, 0xCE, 0x96, 0x0F] (.ldsImm 0x960F)) = true := by decide

theorem test_decode_page2_rowD :
    (reads [0x10, 0xDE, 0x96] (.ldsDir 0x96) && reads [0x10, 0xDF, 0x96] (.stsDir 0x96)) = true := by decide

theorem test_decode_page2_rowE :
    (reads [0x10, 0xEE, 0x1F] (.ldsIdx (.off5 .x (-1))) &&
     reads [0x10, 0xEF, 0xA9, 0x12, 0x34] (.stsIdx (.off16 .y false 0x1234))) = true := by decide

theorem test_decode_page2_rowF :
    (reads [0x10, 0xFE, 0x96, 0x0F] (.ldsExt 0x960F) && reads [0x10, 0xFF, 0x96, 0x0F] (.stsExt 0x960F)) = true := by decide

theorem test_decode_page3_row3 :
    (reads [0x11, 0x3F] (.swi3)) = true := by decide

theorem test_decode_page3_row8 :
    (reads [0x11, 0x83, 0x96, 0x0F] (.cmpuImm 0x960F) && reads [0x11, 0x8C, 0x96, 0x0F] (.cmpsImm 0x960F)) = true := by decide

theorem test_decode_page3_row9 :
    (reads [0x11, 0x93, 0x96] (.cmpuDir 0x96) && reads [0x11, 0x9C, 0x96] (.cmpsDir 0x96)) = true := by decide

theorem test_decode_page3_rowA :
    (reads [0x11, 0xA3, 0xC0] (.cmpuIdx (.inc1 .u)) && reads [0x11, 0xAC, 0xE1] (.cmpsIdx (.inc2 .s false))) = true := by decide

theorem test_decode_page3_rowB :
    (reads [0x11, 0xB3, 0x96, 0x0F] (.cmpuExt 0x960F) && reads [0x11, 0xBC, 0x96, 0x0F] (.cmpsExt 0x960F)) = true := by decide
/-- R300, R305, R144: every register code, every stack bit, and a page byte repeated. -/
theorem test_decode_operand_codes :
    (reads [0x1E, 0x01] (.exg (.r16 .d) (.r16 .x)) && reads [0x1E, 0x23] (.exg (.r16 .y) (.r16 .u)) &&
     reads [0x1F, 0x45] (.tfr (.r16 .s) (.r16 .pc)) && reads [0x1F, 0x9A] (.tfr (.r8 .b) (.r8 .cc)) &&
     reads [0xA6, 0x50] (.ldaIdx (.off5 .u (-16))) && reads [0xA6, 0xFD, 0xFF, 0xFE] (.ldaIdx (.pc16 .s true 0xFFFE))) =
      true := by decide

/-- R143, R144, R136, R300. -/
theorem test_decode_refuses :
    decode [0x87] = .invalid .page1 ∧ decode [0x10, 0x10] = .invalid .page2 ∧ decode [0x11, 0x8E] = .invalid .page3 ∧
    decode [0xA6, 0x90] = .invalid .postbyte ∧ decode [0xA6, 0xBF] = .invalid .postbyte ∧
    decode [0x1F, 0x81] = .invalid .registerPair ∧ decode [0x1F, 0x61] = .invalid .registerPair := by decide

/-- The numbers of the opcode table, its operand bits zero (log entry 19). -/
theorem test_table_words :
    decodeTableWord 8 0x86 = some (.ldaImm 0x00) ∧ decodeTableWord 16 0x108E = some (.ldyImm 0x0000) ∧
    decodeTableWord 16 0x8E10 = some (.ldyImm 0x0000) ∧ decodeTableWord 8 0x1F = some (.tfr (.r16 .d) (.r16 .d)) ∧
    decodeTableWord 8 0x87 = none := by decide

/-- The next step fetches and runs the instruction placed there (log entry 6). -/
theorem test_withFetchWord :
    step (State.reset.withFetchWord 8 0x4F) =
      exec .clra ((State.reset.withFetchWord 8 0x4F).modCore fun c => { c with pc := 0x0001 }) := rfl

/-! ### One step each: the vectors of 95_test_vectors.md -/

/-- The core of a vector before its start column: just after reset, PC at 0x8000. -/
def core0 : Core := Core.atReset Config.resetRegs 0x8000

/-- CC replaced. -/
def flags (v : Byte) (c : Core) : Core := { c with cc := CC.ofByte v }

/-- Bytes at addresses of the main board. -/
def place (s : State) (bytes : List (Word × List Byte)) : State := bytes.foldl (fun s m => s.pokeList .main m.1 m.2) s

/-- A vector's start: the instruction's bytes in fixed ROM at 0x8000. -/
def start (rom : List Byte) (mem : List (Word × List Byte)) (before : Core → Core) : State :=
  place (State.reset.setCoreOf .main (before core0)) ((0x8000, rom) :: mem)

/-- H left out of a comparison: a free value. -/
def noH (cc : CC) : CC := { cc with h := false }

/-- V left out of a comparison: a free value. -/
def noV (cc : CC) : CC := { cc with v := false }

/-- One step gives the core the vector says, but for a free flag, and stores the bytes it lists in RAM and no others. -/
def vectorOf (defined : CC → CC) (rom : List Byte) (mem : List (Word × List Byte)) (before after : Core → Core)
    (stores : List (Word × List Byte)) : Bool :=
  let s := start rom mem before
  let core (c : Core) : Core := { c with cc := defined c.cc }
  match step s with
  | .next t => decide (core t.main.core = core (after s.main.core)) && decide (t.main.ram = (place s stores).main.ram) &&
      decide (t.fatal = none)
  | _ => false

/-- A vector with no free flag. -/
def vector := vectorOf id

/-- One step ends in `InvalidOpcode` with PC after the bytes fetched and no cycle counted. -/
def stopped (rom : List Byte) (pc : Word) : Bool :=
  let s := start rom [] id
  match step s with
  | .next t => decide (t.main.core = { s.main.core with pc := pc }) &&
      decide (t.fatal = some (.invalidOpcode .main 0x8000 (rom.take (pc - 0x8000).toNat)))
  | _ => false

/-- V-LS-1, V-LS-2. -/
theorem test_lda :
    vector [0x86, 0x80] [] id (fun c => { flags 0x58 c with a := 0x80, pc := 0x8002, tickCount := 2 }) [] = true ∧
    vector [0x86, 0x00] [] (fun c => flags 0x5B c) (fun c => { flags 0x55 c with pc := 0x8002, tickCount := 2 })
      [] = true := by decide

/-- V-LS-3. -/
theorem test_ldb :
    vector [0xE6, 0x84] [(0x0100, [0x7F])] (fun c => { c with x := 0x0100 })
      (fun c => { flags 0x50 c with b := 0x7F, pc := 0x8002, tickCount := 4 }) [] = true := by decide

/-- V-LS-4, V-LS-5. -/
theorem test_ldd :
    vector [0xCC, 0x12, 0x34] [] id
      (fun c => { flags 0x50 c with a := 0x12, b := 0x34, pc := 0x8003, tickCount := 3 }) [] = true ∧
    vector [0xCC, 0x00, 0x00] [] (fun c => { c with a := 0xFF, b := 0xFF })
      (fun c => { flags 0x54 c with a := 0x00, b := 0x00, pc := 0x8003, tickCount := 3 }) [] = true := by decide

/-- V-LS-6. -/
theorem test_ldx :
    vector [0x8E, 0x80, 0x00] [] id (fun c => { flags 0x58 c with x := 0x8000, pc := 0x8003, tickCount := 3 })
      [] = true := by decide

/-- V-LS-7. -/
theorem test_ldy :
    vector [0x10, 0x8E, 0x00, 0x00] [] (fun c => { c with y := 0x1111 })
      (fun c => { flags 0x54 c with y := 0x0000, pc := 0x8004, tickCount := 4 }) [] = true := by decide

/-- V-LS-8. -/
theorem test_ldu :
    vector [0xFE, 0x12, 0x34] [(0x1234, [0xAB, 0xCD])] id
      (fun c => { flags 0x58 c with u := 0xABCD, pc := 0x8003, tickCount := 6 }) [] = true := by decide

/-- V-LS-9. -/
theorem test_lds :
    vector [0x10, 0xCE, 0x17, 0x00] [] id
      (fun c => { flags 0x50 c with s := 0x1700, pc := 0x8004, tickCount := 4 }) [] = true := by decide

/-- V-LS-10, V-LS-11, V-LS-23. -/
theorem test_sta :
    vector [0x97, 0x10] [] (fun c => { c with a := 0xFF })
      (fun c => { flags 0x58 c with pc := 0x8002, tickCount := 4 }) [(0x0010, [0xFF])] = true ∧
    vector [0x97, 0x10] [] (fun c => { c with a := 0x01, dp := 0x12 })
      (fun c => { flags 0x50 c with pc := 0x8002, tickCount := 4 }) [(0x1210, [0x01])] = true ∧
    vector [0xB7, 0x90, 0x00] [] (fun c => { c with a := 0x42 })
      (fun c => { flags 0x50 c with pc := 0x8003, tickCount := 5 }) [] = true := by decide

/-- V-LS-12. -/
theorem test_stb :
    vector [0xF7, 0x12, 0x34] [] (fun c => { flags 0x5A c with b := 0x00 })
      (fun c => { flags 0x54 c with pc := 0x8003, tickCount := 5 }) [(0x1234, [0x00])] = true := by decide

/-- V-LS-13. -/
theorem test_std :
    vector [0xDD, 0x20] [] (fun c => { c with a := 0x12, b := 0x34, dp := 0x01 })
      (fun c => { flags 0x50 c with pc := 0x8002, tickCount := 5 }) [(0x0120, [0x12, 0x34])] = true := by decide

/-- V-LS-14. -/
theorem test_stx :
    vector [0xBF, 0x20, 0x00] [] (fun c => { c with x := 0x8001 })
      (fun c => { flags 0x58 c with pc := 0x8003, tickCount := 6 }) [(0x2000, [0x80, 0x01])] = true := by decide

/-- V-LS-15. -/
theorem test_sty :
    vector [0x10, 0x9F, 0x40] [] (fun c => { c with y := 0x0000 })
      (fun c => { flags 0x54 c with pc := 0x8003, tickCount := 6 }) [(0x0040, [0x00, 0x00])] = true := by decide

/-- V-LS-16. -/
theorem test_stu :
    vector [0xEF, 0x84] [] (fun c => { c with x := 0x0200, u := 0x1FFF })
      (fun c => { flags 0x50 c with pc := 0x8002, tickCount := 5 }) [(0x0200, [0x1F, 0xFF])] = true := by decide

/-- V-LS-17. -/
theorem test_sts :
    vector [0x10, 0xFF, 0x00, 0x50] [] (fun c => { c with s := 0x1700 })
      (fun c => { flags 0x50 c with pc := 0x8004, tickCount := 7 }) [(0x0050, [0x17, 0x00])] = true := by decide

/-- V-LS-18, V-LS-19. -/
theorem test_leax :
    vector [0x30, 0x1F] [] (fun c => { c with x := 0x0001 })
      (fun c => { flags 0x54 c with x := 0x0000, pc := 0x8002, tickCount := 5 }) [] = true ∧
    vector [0x30, 0x01] [] (fun c => { flags 0x50 c with x := 0xFFFF })
      (fun c => { flags 0x54 c with x := 0x0000, pc := 0x8002, tickCount := 5 }) [] = true := by decide

/-- V-LS-20. -/
theorem test_leay :
    vector [0x31, 0xA9, 0x01, 0x00] [] (fun c => { c with y := 0x0F00 })
      (fun c => { flags 0x50 c with y := 0x1000, pc := 0x8004, tickCount := 8 }) [] = true := by decide

/-- V-LS-21. -/
theorem test_leas :
    vector [0x32, 0x7C] [] (fun c => { c with s := 0x1700 })
      (fun c => { flags 0x50 c with s := 0x16FC, pc := 0x8002, tickCount := 5 }) [] = true := by decide

/-- V-LS-22. -/
theorem test_leau :
    vector [0x33, 0xC8, 0x10] [] (fun c => { c with u := 0x2000 })
      (fun c => { flags 0x50 c with u := 0x2010, pc := 0x8003, tickCount := 5 }) [] = true := by decide

/-- V-IDX-1, V-IDX-2, V-IDX-3, V-IDX-4, V-IDX-5. -/
theorem test_indexed_modes_1 :
    vector [0xA6, 0x80] [(0x0100, [0x11])] (fun c => { c with x := 0x0100 })
      (fun c => { flags 0x50 c with a := 0x11, x := 0x0101, pc := 0x8002, tickCount := 6 }) [] = true ∧
    vector [0xA6, 0x81] [(0x0100, [0x11])] (fun c => { c with x := 0x0100 })
      (fun c => { flags 0x50 c with a := 0x11, x := 0x0102, pc := 0x8002, tickCount := 7 }) [] = true ∧
    vector [0xA6, 0xA2] [(0x0100, [0x22])] (fun c => { c with y := 0x0101 })
      (fun c => { flags 0x50 c with a := 0x22, y := 0x0100, pc := 0x8002, tickCount := 6 }) [] = true ∧
    vector [0xA6, 0xA3] [(0x0100, [0x22])] (fun c => { c with y := 0x0102 })
      (fun c => { flags 0x50 c with a := 0x22, y := 0x0100, pc := 0x8002, tickCount := 7 }) [] = true ∧
    vector [0xA6, 0x83] [] (fun c => { c with x := 0x0001 })
      (fun c => { flags 0x54 c with x := 0xFFFF, pc := 0x8002, tickCount := 7 }) [] = true := by decide

/-- V-IDX-6, V-IDX-7, V-IDX-8, V-IDX-9, V-IDX-10. -/
theorem test_indexed_modes_2 :
    vector [0xA6, 0x50] [(0x0100, [0x33])] (fun c => { c with u := 0x0110 })
      (fun c => { flags 0x50 c with a := 0x33, pc := 0x8002, tickCount := 5 }) [] = true ∧
    vector [0xA6, 0x6F] [(0x0100, [0x44])] (fun c => { c with s := 0x00F1 })
      (fun c => { flags 0x50 c with a := 0x44, pc := 0x8002, tickCount := 5 }) [] = true ∧
    vector [0xA6, 0x88, 0x80] [(0x0100, [0x55])] (fun c => { c with x := 0x0180 })
      (fun c => { flags 0x50 c with a := 0x55, pc := 0x8003, tickCount := 5 }) [] = true ∧
    vector [0xA6, 0x89, 0x10, 0x00] [(0x0100, [0x66])] (fun c => { c with x := 0xF100 })
      (fun c => { flags 0x50 c with a := 0x66, pc := 0x8004, tickCount := 8 }) [] = true ∧
    vector [0xA6, 0x86] [(0x0100, [0x77])] (fun c => { c with a := 0xFF, x := 0x0101 })
      (fun c => { flags 0x50 c with a := 0x77, pc := 0x8002, tickCount := 5 }) [] = true := by decide

/-- V-IDX-11, V-IDX-12, V-IDX-13, V-IDX-14, V-IDX-15. -/
theorem test_indexed_modes_3 :
    vector [0xA6, 0x85] [(0x0100, [0x78])] (fun c => { c with b := 0x80, x := 0x0180 })
      (fun c => { flags 0x50 c with a := 0x78, pc := 0x8002, tickCount := 5 }) [] = true ∧
    vector [0xA6, 0x8B] [(0x0100, [0x79])] (fun c => { c with a := 0xFF, b := 0x00, x := 0x0200 })
      (fun c => { flags 0x50 c with a := 0x79, pc := 0x8002, tickCount := 8 }) [] = true ∧
    vector [0xA6, 0x8C, 0x02, 0x12, 0x12, 0x99] [] id
      (fun c => { flags 0x58 c with a := 0x99, pc := 0x8003, tickCount := 5 }) [] = true ∧
    vector [0xA6, 0x8D, 0x00, 0x02, 0x12, 0x12, 0x9A] [] id
      (fun c => { flags 0x58 c with a := 0x9A, pc := 0x8004, tickCount := 9 }) [] = true ∧
    vector [0xA6, 0x94] [(0x0100, [0x02, 0x00]), (0x0200, [0x88])] (fun c => { c with x := 0x0100 })
      (fun c => { flags 0x58 c with a := 0x88, pc := 0x8002, tickCount := 7 }) [] = true := by decide

/-- V-IDX-16, V-IDX-17, V-IDX-18. -/
theorem test_indexed_modes_4 :
    vector [0xA6, 0x91] [(0x0100, [0x02, 0x00]), (0x0200, [0x89])] (fun c => { c with x := 0x0100 })
      (fun c => { flags 0x58 c with a := 0x89, x := 0x0102, pc := 0x8002, tickCount := 10 }) [] = true ∧
    vector [0xA6, 0x9F, 0x01, 0x00] [(0x0100, [0x02, 0x00]), (0x0200, [0x8A])] id
      (fun c => { flags 0x58 c with a := 0x8A, pc := 0x8004, tickCount := 9 }) [] = true ∧
    vector [0xA6, 0xB8, 0x04] [(0x0100, [0x02, 0x00]), (0x0200, [0x8B])] (fun c => { c with y := 0x00FC })
      (fun c => { flags 0x58 c with a := 0x8B, pc := 0x8003, tickCount := 8 }) [] = true := by decide

/-- V-IDX-19, V-IDX-20, V-IDX-21. -/
theorem test_indexed_invalid :
    stopped [0xA6, 0x90] 0x8002 = true ∧
    stopped [0xA6, 0x87] 0x8002 = true ∧
    stopped [0xA6, 0xBF, 0x00, 0x00] 0x8002 = true := by decide

/-- V-AR-1, V-AR-2, V-AR-3, V-AR-4. -/
theorem test_add :
    vector [0x8B, 0x01] [] (fun c => { flags 0x00 c with a := 0x7F })
      (fun c => { flags 0x2A c with a := 0x80, pc := 0x8002, tickCount := 2 }) [] = true ∧
    vector [0x8B, 0x01] [] (fun c => { flags 0x00 c with a := 0xFF })
      (fun c => { flags 0x25 c with a := 0x00, pc := 0x8002, tickCount := 2 }) [] = true ∧
    vector [0x8B, 0x80] [] (fun c => { flags 0x00 c with a := 0x80 })
      (fun c => { flags 0x07 c with a := 0x00, pc := 0x8002, tickCount := 2 }) [] = true ∧
    vector [0xCB, 0x0F] [] (fun c => { flags 0x00 c with b := 0x01 })
      (fun c => { flags 0x20 c with b := 0x10, pc := 0x8002, tickCount := 2 }) [] = true := by decide

/-- V-AR-5, V-AR-6. -/
theorem test_adc :
    vector [0x89, 0x00] [] (fun c => { flags 0x01 c with a := 0xFF })
      (fun c => { flags 0x25 c with a := 0x00, pc := 0x8002, tickCount := 2 }) [] = true ∧
    vector [0xC9, 0x7F] [] (fun c => { flags 0x01 c with b := 0x00 })
      (fun c => { flags 0x2A c with b := 0x80, pc := 0x8002, tickCount := 2 }) [] = true := by decide

/-- V-AR-7, V-AR-8. -/
theorem test_addd :
    vector [0xC3, 0x00, 0x01] [] (fun c => { flags 0x20 c with a := 0x7F, b := 0xFF })
      (fun c => { flags 0x2A c with a := 0x80, b := 0x00, pc := 0x8003, tickCount := 4 }) [] = true ∧
    vector [0xC3, 0x80, 0x00] [] (fun c => { flags 0x00 c with a := 0x80, b := 0x00 })
      (fun c => { flags 0x07 c with a := 0x00, pc := 0x8003, tickCount := 4 }) [] = true := by decide

/-- V-AR-9, V-AR-10, V-AR-11. -/
theorem test_sub :
    vectorOf noH [0x80, 0x01] [] (fun c => { flags 0x00 c with a := 0x00 })
      (fun c => { flags 0x09 c with a := 0xFF, pc := 0x8002, tickCount := 2 }) [] = true ∧
    vectorOf noH [0x80, 0x01] [] (fun c => { flags 0x00 c with a := 0x80 })
      (fun c => { flags 0x02 c with a := 0x7F, pc := 0x8002, tickCount := 2 }) [] = true ∧
    vectorOf noH [0xC0, 0xFF] [] (fun c => { flags 0x00 c with b := 0x7F })
      (fun c => { flags 0x0B c with b := 0x80, pc := 0x8002, tickCount := 2 }) [] = true := by decide

/-- V-AR-12, V-AR-13. -/
theorem test_sbc :
    vectorOf noH [0x82, 0x00] [] (fun c => { flags 0x01 c with a := 0x00 })
      (fun c => { flags 0x09 c with a := 0xFF, pc := 0x8002, tickCount := 2 }) [] = true ∧
    vectorOf noH [0xC2, 0x7F] [] (fun c => { flags 0x01 c with b := 0x80 })
      (fun c => { flags 0x06 c with b := 0x00, pc := 0x8002, tickCount := 2 }) [] = true := by decide

/-- V-AR-14, V-AR-15. -/
theorem test_subd :
    vector [0x83, 0x00, 0x01] [] (fun c => { flags 0x00 c with a := 0x00, b := 0x00 })
      (fun c => { flags 0x09 c with a := 0xFF, b := 0xFF, pc := 0x8003, tickCount := 4 }) [] = true ∧
    vector [0x83, 0x00, 0x01] [] (fun c => { flags 0x00 c with a := 0x80, b := 0x00 })
      (fun c => { flags 0x02 c with a := 0x7F, b := 0xFF, pc := 0x8003, tickCount := 4 }) [] = true := by decide

/-- V-AR-16, V-AR-17. -/
theorem test_cmp :
    vectorOf noH [0x81, 0x80] [] (fun c => { flags 0x00 c with a := 0x7F })
      (fun c => { flags 0x0B c with pc := 0x8002, tickCount := 2 }) [] = true ∧
    vectorOf noH [0xC1, 0x05] [] (fun c => { flags 0x0B c with b := 0x05 })
      (fun c => { flags 0x04 c with pc := 0x8002, tickCount := 2 }) [] = true := by decide

/-- V-AR-18. -/
theorem test_cmpd :
    vector [0x10, 0x83, 0x80, 0x00] [] (fun c => { flags 0x00 c with a := 0x7F, b := 0xFF })
      (fun c => { flags 0x0B c with pc := 0x8004, tickCount := 5 }) [] = true := by decide

/-- V-AR-19. -/
theorem test_cmpx :
    vector [0x8C, 0x12, 0x34] [] (fun c => { flags 0x00 c with x := 0x1234 })
      (fun c => { flags 0x04 c with pc := 0x8003, tickCount := 4 }) [] = true := by decide

/-- V-AR-20. -/
theorem test_cmpy :
    vector [0x10, 0x8C, 0x00, 0x01] [] (fun c => { flags 0x00 c with y := 0x0000 })
      (fun c => { flags 0x09 c with pc := 0x8004, tickCount := 5 }) [] = true := by decide

/-- V-AR-21. -/
theorem test_cmpu :
    vector [0x11, 0x83, 0x00, 0x00] [] (fun c => { flags 0x00 c with u := 0x8000 })
      (fun c => { flags 0x08 c with pc := 0x8004, tickCount := 5 }) [] = true := by decide

/-- V-AR-22. -/
theorem test_cmps :
    vector [0x11, 0x8C, 0xFF, 0xFF] [] (fun c => { flags 0x00 c with s := 0x0000 })
      (fun c => { flags 0x01 c with pc := 0x8004, tickCount := 5 }) [] = true := by decide

/-- V-AR-23, V-AR-24, V-AR-25, V-AR-26. -/
theorem test_neg :
    vectorOf noH [0x40] [] (fun c => { flags 0x00 c with a := 0x80 })
      (fun c => { flags 0x0B c with pc := 0x8001, tickCount := 2 }) [] = true ∧
    vectorOf noH [0x40] [] (fun c => { flags 0x01 c with a := 0x00 })
      (fun c => { flags 0x04 c with pc := 0x8001, tickCount := 2 }) [] = true ∧
    vectorOf noH [0x50] [] (fun c => { flags 0x00 c with b := 0x01 })
      (fun c => { flags 0x09 c with b := 0xFF, pc := 0x8001, tickCount := 2 }) [] = true ∧
    vectorOf noH [0x00, 0x10] [(0x0010, [0x7F])] (fun c => flags 0x00 c)
      (fun c => { flags 0x09 c with pc := 0x8002, tickCount := 6 }) [(0x0010, [0x81])] = true := by decide

/-- V-AR-27, V-AR-28, V-AR-29. -/
theorem test_inc :
    vector [0x4C] [] (fun c => { flags 0x01 c with a := 0x7F })
      (fun c => { flags 0x0B c with a := 0x80, pc := 0x8001, tickCount := 2 }) [] = true ∧
    vector [0x5C] [] (fun c => { flags 0x00 c with b := 0xFF })
      (fun c => { flags 0x04 c with b := 0x00, pc := 0x8001, tickCount := 2 }) [] = true ∧
    vector [0x7C, 0x01, 0x00] [(0x0100, [0xFE])] (fun c => flags 0x00 c)
      (fun c => { flags 0x08 c with pc := 0x8003, tickCount := 7 }) [(0x0100, [0xFF])] = true := by decide

/-- V-AR-30, V-AR-31, V-AR-32. -/
theorem test_dec :
    vector [0x4A] [] (fun c => { flags 0x00 c with a := 0x80 })
      (fun c => { flags 0x02 c with a := 0x7F, pc := 0x8001, tickCount := 2 }) [] = true ∧
    vector [0x5A] [] (fun c => { flags 0x01 c with b := 0x00 })
      (fun c => { flags 0x09 c with b := 0xFF, pc := 0x8001, tickCount := 2 }) [] = true ∧
    vector [0x6A, 0x84] [(0x0100, [0x01])] (fun c => { flags 0x00 c with x := 0x0100 })
      (fun c => { flags 0x04 c with pc := 0x8002, tickCount := 6 }) [(0x0100, [0x00])] = true := by decide

/-- V-AR-33, V-AR-34, V-AR-35. -/
theorem test_clr :
    vector [0x4F] [] (fun c => { flags 0x0B c with a := 0x55 })
      (fun c => { flags 0x04 c with a := 0x00, pc := 0x8001, tickCount := 2 }) [] = true ∧
    vector [0x5F] [] (fun c => { flags 0xFF c with b := 0x55 })
      (fun c => { flags 0xF4 c with b := 0x00, pc := 0x8001, tickCount := 2 }) [] = true ∧
    vector [0x7F, 0x01, 0x00] [(0x0100, [0x99])] (fun c => flags 0x01 c)
      (fun c => { flags 0x04 c with pc := 0x8003, tickCount := 7 }) [(0x0100, [0x00])] = true := by decide

/-- V-AR-36, V-AR-37, V-AR-38. -/
theorem test_tst :
    vector [0x4D] [] (fun c => { flags 0x03 c with a := 0x80 })
      (fun c => { flags 0x09 c with pc := 0x8001, tickCount := 2 }) [] = true ∧
    vector [0x5D] [] (fun c => { flags 0x03 c with b := 0x00 })
      (fun c => { flags 0x05 c with pc := 0x8001, tickCount := 2 }) [] = true ∧
    vector [0x0D, 0x10] [(0x0010, [0x01])] (fun c => flags 0x02 c)
      (fun c => { flags 0x00 c with pc := 0x8002, tickCount := 6 }) [] = true := by decide

/-- V-AR-39, V-AR-40, V-AR-41. -/
theorem test_mul :
    vector [0x3D] [] (fun c => { flags 0x00 c with a := 0xFF, b := 0xFF })
      (fun c => { flags 0x00 c with a := 0xFE, b := 0x01, pc := 0x8001, tickCount := 11 }) [] = true ∧
    vector [0x3D] [] (fun c => { flags 0x04 c with a := 0x10, b := 0x08 })
      (fun c => { flags 0x01 c with a := 0x00, b := 0x80, pc := 0x8001, tickCount := 11 }) [] = true ∧
    vector [0x3D] [] (fun c => { flags 0x01 c with a := 0x00, b := 0x55 })
      (fun c => { flags 0x04 c with b := 0x00, pc := 0x8001, tickCount := 11 }) [] = true := by decide

/-- V-AR-42, V-AR-43, V-AR-44. -/
theorem test_daa :
    vectorOf noV [0x19] [] (fun c => { flags 0x20 c with a := 0x41 })
      (fun c => { flags 0x20 c with a := 0x47, pc := 0x8001, tickCount := 2 }) [] = true ∧
    vectorOf noV [0x19] [] (fun c => { flags 0x00 c with a := 0x9A })
      (fun c => { flags 0x05 c with a := 0x00, pc := 0x8001, tickCount := 2 }) [] = true ∧
    vectorOf noV [0x19] [] (fun c => { flags 0x01 c with a := 0x0A })
      (fun c => { flags 0x01 c with a := 0x70, pc := 0x8001, tickCount := 2 }) [] = true := by decide

/-- V-AR-45, V-AR-46. -/
theorem test_sex :
    vector [0x1D] [] (fun c => { flags 0x02 c with a := 0x55, b := 0x80 })
      (fun c => { flags 0x0A c with a := 0xFF, pc := 0x8001, tickCount := 2 }) [] = true ∧
    vector [0x1D] [] (fun c => { flags 0x00 c with a := 0x55, b := 0x00 })
      (fun c => { flags 0x04 c with a := 0x00, pc := 0x8001, tickCount := 2 }) [] = true := by decide

/-- V-AR-47. -/
theorem test_abx :
    vector [0x3A] [] (fun c => { flags 0x00 c with b := 0xFF, x := 0xFF01 })
      (fun c => { flags 0x00 c with x := 0x0000, pc := 0x8001, tickCount := 3 }) [] = true := by decide

/-- V-LG-1, V-LG-2. -/
theorem test_and :
    vector [0x84, 0x0F] [] (fun c => { flags 0x03 c with a := 0xF0 })
      (fun c => { flags 0x05 c with a := 0x00, pc := 0x8002, tickCount := 2 }) [] = true ∧
    vector [0xC4, 0x80] [] (fun c => { flags 0x02 c with b := 0xFF })
      (fun c => { flags 0x08 c with b := 0x80, pc := 0x8002, tickCount := 2 }) [] = true := by decide

/-- V-LG-3. -/
theorem test_ora :
    vector [0x8A, 0x00] [] (fun c => { flags 0x02 c with a := 0x00 })
      (fun c => { flags 0x04 c with pc := 0x8002, tickCount := 2 }) [] = true := by decide

/-- V-LG-4. -/
theorem test_orb :
    vector [0xCA, 0x81] [] (fun c => { flags 0x01 c with b := 0x02 })
      (fun c => { flags 0x09 c with b := 0x83, pc := 0x8002, tickCount := 2 }) [] = true := by decide

/-- V-LG-5, V-LG-6. -/
theorem test_eor :
    vector [0x88, 0xFF] [] (fun c => { flags 0x00 c with a := 0xFF })
      (fun c => { flags 0x04 c with a := 0x00, pc := 0x8002, tickCount := 2 }) [] = true ∧
    vector [0xC8, 0xFF] [] (fun c => { flags 0x00 c with b := 0x0F })
      (fun c => { flags 0x08 c with b := 0xF0, pc := 0x8002, tickCount := 2 }) [] = true := by decide

/-- V-LG-7, V-LG-8. -/
theorem test_bit :
    vector [0x85, 0x80] [] (fun c => { flags 0x02 c with a := 0x7F })
      (fun c => { flags 0x04 c with pc := 0x8002, tickCount := 2 }) [] = true ∧
    vector [0xC5, 0x01] [] (fun c => { flags 0x06 c with b := 0x81 })
      (fun c => { flags 0x00 c with pc := 0x8002, tickCount := 2 }) [] = true := by decide

/-- V-LG-9, V-LG-10, V-LG-11. -/
theorem test_com :
    vector [0x43] [] (fun c => { flags 0x02 c with a := 0x00 })
      (fun c => { flags 0x09 c with a := 0xFF, pc := 0x8001, tickCount := 2 }) [] = true ∧
    vector [0x53] [] (fun c => { flags 0x00 c with b := 0xFF })
      (fun c => { flags 0x05 c with b := 0x00, pc := 0x8001, tickCount := 2 }) [] = true ∧
    vector [0x03, 0x10] [(0x0010, [0x55])] (fun c => flags 0x00 c)
      (fun c => { flags 0x09 c with pc := 0x8002, tickCount := 6 }) [(0x0010, [0xAA])] = true := by decide

/-- V-LG-12. -/
theorem test_andcc :
    vector [0x1C, 0xAF] [] (fun c => flags 0xFF c) (fun c => { flags 0xAF c with pc := 0x8002, tickCount := 3 })
      [] = true := by decide

/-- V-LG-13. -/
theorem test_orcc :
    vector [0x1A, 0x50] [] (fun c => flags 0x00 c) (fun c => { flags 0x50 c with pc := 0x8002, tickCount := 3 })
      [] = true := by decide

/-- V-LG-14, V-LG-15, V-LG-16. -/
theorem test_lsr :
    vector [0x44] [] (fun c => { flags 0x08 c with a := 0x01 })
      (fun c => { flags 0x05 c with a := 0x00, pc := 0x8001, tickCount := 2 }) [] = true ∧
    vector [0x54] [] (fun c => { flags 0x01 c with b := 0x80 })
      (fun c => { flags 0x00 c with b := 0x40, pc := 0x8001, tickCount := 2 }) [] = true ∧
    vector [0x04, 0x10] [(0x0010, [0xFF])] (fun c => flags 0x00 c)
      (fun c => { flags 0x01 c with pc := 0x8002, tickCount := 6 }) [(0x0010, [0x7F])] = true := by decide

/-- V-LG-17, V-LG-18, V-LG-19. -/
theorem test_asr :
    vectorOf noH [0x47] [] (fun c => { flags 0x00 c with a := 0x81 })
      (fun c => { flags 0x09 c with a := 0xC0, pc := 0x8001, tickCount := 2 }) [] = true ∧
    vectorOf noH [0x57] [] (fun c => { flags 0x00 c with b := 0x01 })
      (fun c => { flags 0x05 c with b := 0x00, pc := 0x8001, tickCount := 2 }) [] = true ∧
    vectorOf noH [0x07, 0x10] [(0x0010, [0x80])] (fun c => flags 0x00 c)
      (fun c => { flags 0x08 c with pc := 0x8002, tickCount := 6 }) [(0x0010, [0xC0])] = true := by decide

/-- V-LG-20, V-LG-21, V-LG-22. -/
theorem test_asl :
    vectorOf noH [0x48] [] (fun c => { flags 0x00 c with a := 0x40 })
      (fun c => { flags 0x0A c with a := 0x80, pc := 0x8001, tickCount := 2 }) [] = true ∧
    vectorOf noH [0x58] [] (fun c => { flags 0x00 c with b := 0x80 })
      (fun c => { flags 0x07 c with b := 0x00, pc := 0x8001, tickCount := 2 }) [] = true ∧
    vectorOf noH [0x08, 0x10] [(0x0010, [0xC0])] (fun c => flags 0x00 c)
      (fun c => { flags 0x09 c with pc := 0x8002, tickCount := 6 }) [(0x0010, [0x80])] = true := by decide

/-- V-LG-23, V-LG-24, V-LG-25. -/
theorem test_rol :
    vector [0x49] [] (fun c => { flags 0x01 c with a := 0x80 })
      (fun c => { flags 0x03 c with a := 0x01, pc := 0x8001, tickCount := 2 }) [] = true ∧
    vector [0x59] [] (fun c => { flags 0x00 c with b := 0x40 })
      (fun c => { flags 0x0A c with b := 0x80, pc := 0x8001, tickCount := 2 }) [] = true ∧
    vector [0x09, 0x10] [(0x0010, [0x00])] (fun c => flags 0x01 c)
      (fun c => { flags 0x00 c with pc := 0x8002, tickCount := 6 }) [(0x0010, [0x01])] = true := by decide

/-- V-LG-26, V-LG-27, V-LG-28. -/
theorem test_ror :
    vector [0x46] [] (fun c => { flags 0x01 c with a := 0x01 })
      (fun c => { flags 0x09 c with a := 0x80, pc := 0x8001, tickCount := 2 }) [] = true ∧
    vector [0x56] [] (fun c => { flags 0x01 c with b := 0x00 })
      (fun c => { flags 0x08 c with b := 0x80, pc := 0x8001, tickCount := 2 }) [] = true ∧
    vector [0x06, 0x10] [(0x0010, [0x01])] (fun c => flags 0x00 c)
      (fun c => { flags 0x05 c with pc := 0x8002, tickCount := 6 }) [(0x0010, [0x00])] = true := by decide

/-- V-TS-1, V-TS-2, V-TS-3, V-TS-4, V-TS-5. -/
theorem test_tfr :
    vector [0x1F, 0x8B] [] (fun c => { c with a := 0x12 })
      (fun c => { flags 0x50 c with dp := 0x12, pc := 0x8002, tickCount := 6 }) [] = true ∧
    vector [0x1F, 0x12] [] (fun c => { c with x := 0xBEEF })
      (fun c => { flags 0x50 c with y := 0xBEEF, pc := 0x8002, tickCount := 6 }) [] = true ∧
    vector [0x1F, 0x51] [] id (fun c => { flags 0x50 c with x := 0x8002, pc := 0x8002, tickCount := 6 }) []
      = true ∧
    vector [0x1F, 0x8A] [] (fun c => { c with a := 0x00 })
      (fun c => { flags 0x00 c with pc := 0x8002, tickCount := 6 }) [] = true ∧
    vector [0x1F, 0x04] [] (fun c => { c with a := 0x17, b := 0x00 })
      (fun c => { flags 0x50 c with s := 0x1700, pc := 0x8002, tickCount := 6 }) [] = true := by decide

/-- V-TS-6, V-TS-7. -/
theorem test_tfr_invalid :
    stopped [0x1F, 0x81] 0x8002 = true ∧
    stopped [0x1F, 0x61] 0x8002 = true := by decide

/-- V-TS-8, V-TS-9, V-TS-10. -/
theorem test_exg :
    vector [0x1E, 0x01] [] (fun c => { c with a := 0x12, b := 0x34, x := 0xABCD })
      (fun c => { flags 0x50 c with a := 0xAB, b := 0xCD, x := 0x1234, pc := 0x8002, tickCount := 8 }) [] = true ∧
    vector [0x1E, 0x89] [] (fun c => { c with a := 0x12, b := 0x34 })
      (fun c => { flags 0x50 c with a := 0x34, b := 0x12, pc := 0x8002, tickCount := 8 }) [] = true ∧
    vector [0x1E, 0x11] [] (fun c => { c with x := 0x1111 })
      (fun c => { flags 0x50 c with pc := 0x8002, tickCount := 8 }) [] = true := by decide

/-- V-TS-11, V-TS-12, V-TS-13, V-TS-20. -/
theorem test_pshs :
    vector [0x34, 0x06] [] (fun c => { c with a := 0x11, b := 0x22, s := 0x1700 })
      (fun c => { flags 0x50 c with s := 0x16FE, pc := 0x8002, tickCount := 7 }) [(0x16FE, [0x11, 0x22])] = true ∧
    vector [0x34, 0x00] [] (fun c => { c with s := 0x1700 })
      (fun c => { flags 0x50 c with pc := 0x8002, tickCount := 5 }) [] = true ∧
    vector [0x34, 0xFF] []
      (fun c => { flags 0x85 c with a := 0x01, b := 0x02, x := 0x0405, y := 0x0607, u := 0x0809, s := 0x1700, dp := 0x03 })
      (fun c => { flags 0x85 c with s := 0x16F4, pc := 0x8002, tickCount := 17 })
      [(0x16F4, [0x85, 0x01, 0x02, 0x03, 0x04, 0x05, 0x06, 0x07, 0x08, 0x09, 0x80, 0x02])] = true ∧
    vector [0x34, 0x02] [] (fun c => { c with a := 0x42, s := 0x0000 })
      (fun c => { flags 0x50 c with s := 0xFFFF, pc := 0x8002, tickCount := 6 }) [] = true := by decide

/-- V-TS-14, V-TS-15. -/
theorem test_puls :
    vector [0x35, 0x86] [(0x16FC, [0x11, 0x22, 0x80, 0x10])] (fun c => { c with s := 0x16FC })
      (fun c => { flags 0x50 c with a := 0x11, b := 0x22, s := 0x1700, pc := 0x8010, tickCount := 9 }) [] = true ∧
    vector [0x35, 0x01] [(0x16FF, [0x00])] (fun c => { c with s := 0x16FF })
      (fun c => { flags 0x00 c with s := 0x1700, pc := 0x8002, tickCount := 6 }) [] = true := by decide

/-- V-TS-16, V-TS-17. -/
theorem test_pshu :
    vector [0x36, 0x10] [] (fun c => { c with x := 0xBEEF, u := 0x0800 })
      (fun c => { flags 0x50 c with u := 0x07FE, pc := 0x8002, tickCount := 7 }) [(0x07FE, [0xBE, 0xEF])] = true ∧
    vector [0x36, 0x40] [] (fun c => { c with u := 0x0800, s := 0x1700 })
      (fun c => { flags 0x50 c with u := 0x07FE, pc := 0x8002, tickCount := 7 }) [(0x07FE, [0x17, 0x00])] = true := by decide

/-- V-TS-18, V-TS-19. -/
theorem test_pulu :
    vector [0x37, 0x06] [(0x0800, [0xAA, 0xBB])] (fun c => { c with u := 0x0800 })
      (fun c => { flags 0x50 c with a := 0xAA, b := 0xBB, u := 0x0802, pc := 0x8002, tickCount := 7 }) [] = true ∧
    vector [0x37, 0x40] [(0x0800, [0x17, 0x00])] (fun c => { c with u := 0x0800 })
      (fun c => { flags 0x50 c with u := 0x0802, s := 0x1700, pc := 0x8002, tickCount := 7 }) [] = true := by decide

/-- V-BR-1, V-BR-2. -/
theorem test_bra :
    vector [0x20, 0x02] [] id (fun c => { flags 0x50 c with pc := 0x8004, tickCount := 3 }) [] = true ∧
    vector [0x20, 0xFE] [] id (fun c => { flags 0x50 c with pc := 0x8000, tickCount := 3 }) [] = true := by decide

/-- V-BR-3. -/
theorem test_brn :
    vector [0x21, 0x7F] [] id (fun c => { flags 0x50 c with pc := 0x8002, tickCount := 3 }) [] = true := by decide

/-- V-BR-4, V-BR-5. -/
theorem test_bhi :
    vector [0x22, 0x04] [] (fun c => flags 0x00 c) (fun c => { flags 0x00 c with pc := 0x8006, tickCount := 3 })
      [] = true ∧
    vector [0x22, 0x04] [] (fun c => flags 0x04 c) (fun c => { flags 0x04 c with pc := 0x8002, tickCount := 3 })
      [] = true := by decide

/-- V-BR-6. -/
theorem test_bls :
    vector [0x23, 0x04] [] (fun c => flags 0x01 c) (fun c => { flags 0x01 c with pc := 0x8006, tickCount := 3 })
      [] = true := by decide

/-- V-BR-7. -/
theorem test_bcc :
    vector [0x24, 0x04] [] (fun c => flags 0x01 c) (fun c => { flags 0x01 c with pc := 0x8002, tickCount := 3 })
      [] = true := by decide

/-- V-BR-8. -/
theorem test_bcs :
    vector [0x25, 0x04] [] (fun c => flags 0x01 c) (fun c => { flags 0x01 c with pc := 0x8006, tickCount := 3 })
      [] = true := by decide

/-- V-BR-9. -/
theorem test_bne :
    vector [0x26, 0x80] [] (fun c => flags 0x00 c) (fun c => { flags 0x00 c with pc := 0x7F82, tickCount := 3 })
      [] = true := by decide

/-- V-BR-10. -/
theorem test_beq :
    vector [0x27, 0x7F] [] (fun c => flags 0x04 c) (fun c => { flags 0x04 c with pc := 0x8081, tickCount := 3 })
      [] = true := by decide

/-- V-BR-11. -/
theorem test_bvc :
    vector [0x28, 0x04] [] (fun c => flags 0x02 c) (fun c => { flags 0x02 c with pc := 0x8002, tickCount := 3 })
      [] = true := by decide

/-- V-BR-12. -/
theorem test_bvs :
    vector [0x29, 0x04] [] (fun c => flags 0x02 c) (fun c => { flags 0x02 c with pc := 0x8006, tickCount := 3 })
      [] = true := by decide

/-- V-BR-13. -/
theorem test_bpl :
    vector [0x2A, 0x04] [] (fun c => flags 0x08 c) (fun c => { flags 0x08 c with pc := 0x8002, tickCount := 3 })
      [] = true := by decide

/-- V-BR-14. -/
theorem test_bmi :
    vector [0x2B, 0x04] [] (fun c => flags 0x08 c) (fun c => { flags 0x08 c with pc := 0x8006, tickCount := 3 })
      [] = true := by decide

/-- V-BR-15. -/
theorem test_bge :
    vector [0x2C, 0x04] [] (fun c => flags 0x0A c) (fun c => { flags 0x0A c with pc := 0x8006, tickCount := 3 })
      [] = true := by decide

/-- V-BR-16. -/
theorem test_blt :
    vector [0x2D, 0x04] [] (fun c => flags 0x08 c) (fun c => { flags 0x08 c with pc := 0x8006, tickCount := 3 })
      [] = true := by decide

/-- V-BR-17, V-BR-18. -/
theorem test_bgt :
    vector [0x2E, 0x04] [] (fun c => flags 0x04 c) (fun c => { flags 0x04 c with pc := 0x8002, tickCount := 3 })
      [] = true ∧
    vector [0x2E, 0x04] [] (fun c => flags 0x00 c) (fun c => { flags 0x00 c with pc := 0x8006, tickCount := 3 })
      [] = true := by decide

/-- V-BR-19. -/
theorem test_ble :
    vector [0x2F, 0x04] [] (fun c => flags 0x02 c) (fun c => { flags 0x02 c with pc := 0x8006, tickCount := 3 })
      [] = true := by decide

/-- V-BR-20, V-BR-21. -/
theorem test_lbra :
    vector [0x16, 0x10, 0x00] [] id (fun c => { flags 0x50 c with pc := 0x9003, tickCount := 5 }) [] = true ∧
    vector [0x16, 0xFF, 0xFD] [] id (fun c => { flags 0x50 c with pc := 0x8000, tickCount := 5 }) [] = true := by decide

/-- V-BR-22. -/
theorem test_lbrn :
    vector [0x10, 0x21, 0x12, 0x34] [] id (fun c => { flags 0x50 c with pc := 0x8004, tickCount := 5 }) []
      = true := by decide

/-- V-BR-23, V-BR-24. -/
theorem test_lbne :
    vector [0x10, 0x26, 0x01, 0x00] [] (fun c => flags 0x00 c)
      (fun c => { flags 0x00 c with pc := 0x8104, tickCount := 6 }) [] = true ∧
    vector [0x10, 0x26, 0x01, 0x00] [] (fun c => flags 0x04 c)
      (fun c => { flags 0x04 c with pc := 0x8004, tickCount := 5 }) [] = true := by decide

/-- V-BR-25. -/
theorem test_lbeq :
    vector [0x10, 0x27, 0x80, 0x00] [] (fun c => flags 0x04 c)
      (fun c => { flags 0x04 c with pc := 0x0004, tickCount := 6 }) [] = true := by decide

/-- V-BR-26. -/
theorem test_lbge :
    vector [0x10, 0x2C, 0x00, 0x10] [] (fun c => flags 0x0A c)
      (fun c => { flags 0x0A c with pc := 0x8014, tickCount := 6 }) [] = true := by decide

/-- V-BR-27. -/
theorem test_bsr :
    vector [0x8D, 0x10] [] (fun c => { c with s := 0x1700 })
      (fun c => { flags 0x50 c with s := 0x16FE, pc := 0x8012, tickCount := 7 }) [(0x16FE, [0x80, 0x02])] = true := by decide

/-- V-BR-28. -/
theorem test_lbsr :
    vector [0x17, 0x01, 0x00] [] (fun c => { c with s := 0x1700 })
      (fun c => { flags 0x50 c with s := 0x16FE, pc := 0x8103, tickCount := 9 }) [(0x16FE, [0x80, 0x03])] = true := by decide

/-- V-BR-29, V-BR-30. -/
theorem test_jmp :
    vector [0x7E, 0x90, 0x00] [] id (fun c => { flags 0x50 c with pc := 0x9000, tickCount := 4 }) [] = true ∧
    vector [0x6E, 0x94] [(0x0100, [0x90, 0x10])] (fun c => { c with x := 0x0100 })
      (fun c => { flags 0x50 c with pc := 0x9010, tickCount := 6 }) [] = true := by decide

/-- V-BR-31, V-BR-32. -/
theorem test_jsr :
    vector [0x9D, 0x20] [] (fun c => { c with s := 0x1700, dp := 0x01 })
      (fun c => { flags 0x50 c with s := 0x16FE, pc := 0x0120, tickCount := 7 }) [(0x16FE, [0x80, 0x02])] = true ∧
    vector [0xAD, 0x84] [] (fun c => { c with x := 0x9000, s := 0x1700 })
      (fun c => { flags 0x50 c with s := 0x16FE, pc := 0x9000, tickCount := 7 }) [(0x16FE, [0x80, 0x02])] = true := by decide

/-- V-BR-33. -/
theorem test_rts :
    vector [0x39] [(0x16FE, [0x80, 0x02])] (fun c => { c with s := 0x16FE })
      (fun c => { flags 0x50 c with s := 0x1700, pc := 0x8002, tickCount := 5 }) [] = true := by decide

/-- V-SY-1. -/
theorem test_nop :
    vector [0x12] [] (fun c => flags 0xFF c) (fun c => { flags 0xFF c with pc := 0x8001, tickCount := 2 }) []
      = true := by decide

/-- V-SY-2. -/
theorem test_swi :
    vector [0x3F] [(0xFFFA, [0x90, 0x00])]
      (fun c => { flags 0x05 c with a := 0x01, b := 0x02, x := 0x0405, y := 0x0607, u := 0x0809, s := 0x1700, dp := 0x03 })
      (fun c => { flags 0xD5 c with s := 0x16F4, pc := 0x9000, tickCount := 19 })
      [(0x16F4, [0x85, 0x01, 0x02, 0x03, 0x04, 0x05, 0x06, 0x07, 0x08, 0x09, 0x80, 0x01])] = true := by decide

/-- V-SY-3. -/
theorem test_swi2 :
    vector [0x10, 0x3F] [(0xFFF4, [0x91, 0x00])] (fun c => { flags 0x00 c with s := 0x1700 })
      (fun c => { flags 0x80 c with s := 0x16F4, pc := 0x9100, tickCount := 20 })
      [(0x16F4, [0x80, 0x00, 0x00, 0x00, 0x00, 0x00, 0x00, 0x00, 0x00, 0x00, 0x80, 0x02])] = true := by decide

/-- V-SY-4. -/
theorem test_swi3 :
    vector [0x11, 0x3F] [(0xFFF2, [0x92, 0x00])] (fun c => { flags 0x00 c with s := 0x1700 })
      (fun c => { flags 0x80 c with s := 0x16F4, pc := 0x9200, tickCount := 20 })
      [(0x16F4, [0x80, 0x00, 0x00, 0x00, 0x00, 0x00, 0x00, 0x00, 0x00, 0x00, 0x80, 0x02])] = true := by decide

/-- V-SY-5, V-SY-6. -/
theorem test_rti :
    vector [0x3B] [(0x16F4, [0x80, 0x11, 0x22, 0x33, 0x44, 0x55, 0x66, 0x77, 0x88, 0x99, 0x80, 0x10])]
      (fun c => { c with s := 0x16F4 })
      (fun c => { flags 0x80 c with a := 0x11, b := 0x22, x := 0x4455, y := 0x6677, u := 0x8899, s := 0x1700, dp := 0x33, pc := 0x8010, tickCount := 15 })
      [] = true ∧
    vector [0x3B] [(0x16FD, [0x01, 0x80, 0x10])] (fun c => { c with s := 0x16FD })
      (fun c => { flags 0x01 c with s := 0x1700, pc := 0x8010, tickCount := 6 }) [] = true := by decide

/-- V-SY-7. -/
theorem test_cwai :
    vector [0x3C, 0xEF] [] (fun c => { flags 0x50 c with s := 0x1700 })
      (fun c => { flags 0xC0 c with s := 0x16F4, pc := 0x8002, tickCount := 20, wait := .cwai })
      [(0x16F4, [0xC0, 0x00, 0x00, 0x00, 0x00, 0x00, 0x00, 0x00, 0x00, 0x00, 0x80, 0x02])] = true := by decide

/-- V-SY-8. -/
theorem test_sync :
    vector [0x13] [] (fun c => flags 0x50 c)
      (fun c => { flags 0x50 c with pc := 0x8001, tickCount := 4, wait := .sync }) [] = true := by decide

/-- V-EN-1, V-EN-2, V-EN-3, V-EN-4, V-EN-5. -/
theorem test_opcode_invalid :
    stopped [0x01] 0x8001 = true ∧
    stopped [0x87, 0x00] 0x8001 = true ∧
    stopped [0xCD, 0x00, 0x00] 0x8001 = true ∧
    stopped [0x10, 0x20, 0x00, 0x00] 0x8002 = true ∧
    stopped [0x10, 0x10, 0x8E, 0x00, 0x00] 0x8002 = true := by decide

/-- V-EN-6. -/
theorem test_opcode_invalid_more :
    stopped [0x11, 0x3E] 0x8002 = true := by decide
/-! ### The host's calls and the environment -/

/-- Two boards whose fixed ROM has 16 bytes and whose banked window has one. -/
def smallBoards : Cfg :=
  { Config.default with
    main := { Config.mainBoard with hwEnd := 0xFFEF, bankEnd := 0xFFF0 }
    sound := { Config.soundBoard with hwEnd := 0xFFEF, bankEnd := 0xFFF0 } }

/-- Images with a fixed ROM of `n` bytes for the main board. -/
def imagesOf (n : Nat) : RomImages := ⟨List.replicate n 0x12, [0x00], List.replicate 16 0x34, [0x00]⟩

/-- R496: images of the lengths asked for are accepted, and the reset of R493 has read the vector in them. -/
theorem test_initialise :
    ∃ s, State.initialise (imagesOf 16) smallBoards = .next s ∧ s.main.core.pc = 0x1212 ∧ s.sound.core.pc = 0x3434 :=
  ⟨_, rfl, rfl, rfl⟩

/-- R493, R496: a missing image, one a byte short and one a byte long are `RomLoadError`; U16: a period of 0 is refused. -/
theorem test_initialise_refuses :
    State.initialise (imagesOf 0) smallBoards = .refused .romLoadError ∧
    State.initialise (imagesOf 15) smallBoards = .refused .romLoadError ∧
    State.initialise (imagesOf 17) smallBoards = .refused .romLoadError ∧
    State.initialise (imagesOf 16) { smallBoards with irqPeriod := 0 } = .refused .configRefused := ⟨rfl, rfl, rfl, rfl⟩

/-- R419: the result of `step()` is the cycles it consumed; `NOP` takes 2 (R370), an invalid opcode 0. -/
theorem test_step_result :
    (∃ t, step { start [0x12] [] id with host := [.step .main] } = .next t ∧ t.ret = some 2) ∧
    (∃ t, step { start [0x01] [] id with host := [.step .main] } = .next t ∧ t.ret = some 0 ∧ t.fatal.isSome = true) :=
  ⟨⟨_, rfl, rfl⟩, _, rfl, rfl, rfl⟩

/-- R499: an input is seen by the reads of the devices and by nothing else. -/
theorem test_input :
    ∃ t, step { start [] [] id with host := [.setCabinetInput 0x1FF] } = .next t ∧ t.dev = [.cabinetInput 0x1FF] ∧
      t.calls = [] := ⟨_, rfl, rfl, rfl⟩

/-- R474: the snapshot shows the diagnostic record. -/
theorem test_snapshot_record :
    ((start [] [] id).report .main 0x3000 .read).uiState.diag = [⟨.main, 0x3000, .read⟩] := rfl

/-- R223, R403: `NEG` of the bank-select register, its result rejected: H is written, the other flags are not. -/
theorem test_neg_rejected :
    ∃ t, exec (.negExt 0x2000) { State.reset with lock := .idle .sound } = .next t ∧
      t.fatal = some (.bankError .sound 0x00) ∧
      t.sound.core.cc = { CC.ofByte 0x50 with h := Config.undefH .neg 0x00 0x00 false false } := ⟨_, rfl, rfl, rfl⟩

/-! ### Witnesses: the hypotheses of the statements can be met -/

/-- A machine about to run an instruction at 0x8000, its stack in RAM. -/
def running (rom : List Byte) : State := start rom [] fun c => { c with s := 0x1700, u := 0x0800 }

/-- The same of the sound core: at 0x0100, its stack in RAM. -/
def soundRunning (s : Word) (code : List Byte) : State :=
  ({ State.reset with lock := .idle .sound }.modCoreOf .sound fun c => { c with pc := 0x0100, s := s }).pokeList .sound 0x0100
    code

/-- The machine with an NMI, and one pending. -/
def withNmi (s : State) : State :=
  { s with cfg := { s.cfg with hasNmi := true } }.modCoreOf .main fun c => { c with pendingNMI := true, nmiArmed := true }

theorem witness_DecodeEncode :
    Instr.wellFormed (.tfr (.r8 .dp) (.r8 .a)) = true ∧ Instr.wellFormed (.exg (.r16 .pc) (.r16 .d)) = true := by decide

theorem witness_EncodeDecode : decode [0x10, 0x8E, 0x12, 0x34, 0x12] = .instr (.ldyImm 0x1234) [0x12] := by decide

theorem witness_ProperBeginnings :
    Instr.wellFormed (.ldyImm 0x1234) = true ∧ encode (.ldyImm 0x1234) = [0x10, 0x8E, 0x12] ++ [0x34] ∧
      [(0x34 : Byte)] ≠ [] := by decide

/-- The first and the last byte that is no page byte, and both register-pair opcodes. -/
theorem witness_RefusedEncodings :
    (0x00 : Byte) ≠ 0x10 ∧ (0x00 : Byte) ≠ 0x11 ∧ (0xFF : Byte) ≠ 0x10 ∧ (0xFF : Byte) ≠ 0x11 ∧
    ((0x1E : Byte) = 0x1E ∨ (0x1E : Byte) = 0x1F) ∧ ((0x1F : Byte) = 0x1E ∨ (0x1F : Byte) = 0x1F) := by decide

theorem running_ready (rom : List Byte) (h : (running rom).fatal = none ∧ (running rom).lock = .idle .main ∧
    (running rom).host = [] ∧ (running rom).main.core.wait = .run ∧ (running rom).main.core.due false = none ∧
    (running rom).cfg.hasNmi = false) : (running rom).ready := by
  obtain ⟨h1, h2, h3, h4, h5, h6⟩ := h
  have ha : (running rom).active = .main := by unfold State.active; rw [h2]; rfl
  have hc : (running rom).core = (running rom).main.core := by unfold State.core; rw [ha]; rfl
  exact ⟨h1, by rw [ha]; exact h2, h3, by rw [hc]; exact h4, by rw [hc, h6]; exact h5⟩

/-- At 0x8000, just above the banked window. -/
theorem witness_StepRunsDecoded :
    (running [0x86, 0x80]).ready ∧ Instr.wellFormed (.ldaImm 0x80) = true ∧
    (running [0x86, 0x80]).shows (running [0x86, 0x80]).core.pc (encode (.ldaImm 0x80)) = true ∧
    (running [0x86, 0x80]).myCfg.plainRange (running [0x86, 0x80]).core.pc (encode (.ldaImm 0x80)).length = true :=
  ⟨running_ready _ (by decide), by decide, by decide, by decide⟩

theorem witness_StepInvalidOpcode :
    (running [0x10, 0x10]).ready ∧ decode [0x10, 0x10] = .invalid .page2 ∧
    (∀ some more, [(0x10 : Byte), 0x10] = some ++ more → more ≠ [] → decode some = .incomplete) ∧
    (running [0x10, 0x10]).shows (running [0x10, 0x10]).core.pc [0x10, 0x10] = true ∧
    (running [0x10, 0x10]).myCfg.plainRange (running [0x10, 0x10]).core.pc [(0x10 : Byte), 0x10].length = true := by
  refine ⟨running_ready _ (by decide), by decide, fun some more h hm => ?_, by decide, by decide⟩
  match some, h with
  | [], _ => rfl
  | [_], h => cases h; rfl
  | [_, _], h => cases h; exact absurd rfl hm

/-- Each region of the main board at its first and its last address. -/
theorem witness_DecodeRegions :
    boardOk (Config.default.board .main) = true ∧ boardOk (Config.default.board .sound) = true ∧
    Config.default.main.ramEnd = 0x3000 ∧ Config.default.main.hwEnd = 0x4000 ∧ Config.default.main.bankEnd = 0x8000 ∧
    0x2FFF < 0x3000 ∧ (0x3000 ≤ 0x3000 ∧ 0x3FFF < 0x4000) ∧ (0x4000 ≤ 0x4000 ∧ 0x7FFF < 0x8000) ∧
    (0x8000 ≤ 0x8000 ∧ 0xFFFF < 0x10000) ∧ 0x10000 ≤ 0x10000 := by decide

/-- The same addresses as words, on the machine. -/
theorem witness_BusAccess :
    boardOk (running []).myCfg = true ∧ (0x2FFF : Word).toNat < (running []).myCfg.ramEnd ∧
    ((running []).myCfg.ramEnd ≤ (0x3000 : Word).toNat ∧ (0x3FFF : Word).toNat < (running []).myCfg.hwEnd) ∧
    ((running []).myCfg.hwEnd ≤ (0x4000 : Word).toNat ∧ (0x7FFF : Word).toNat < (running []).myCfg.bankEnd) ∧
    (running []).myCfg.bankEnd ≤ (0x8000 : Word).toNat := by decide

theorem witness_RamReadsBack :
    ((running []).bd (running []).active).ram.wf = true ∧ (0x0000 : Word).toNat < (running []).myCfg.ramEnd ∧
    (0x2FFF : Word).toNat < (running []).myCfg.ramEnd := by decide

/-- The sound board's bank-select register takes 0x60 (U18, bank 0) and rejects 0xFF. -/
theorem witness_SixteenBitAccess_StoredFrame :
    (soundRunning 0x1700 []).myCfg.rejects 0x2000 (hiByte 0x6000) = false ∧
    (soundRunning 0x1700 []).myCfg.rejects 0x2000 (hiByte 0xFF00) = true ∧
    (soundRunning 0x1700 []).myCfg.rejects 0x1FFF 0xFF = false := by decide

/-- The sound core of a board with four banks only. -/
def fewBanks : State :=
  { soundRunning 0x1700 [] with
    cfg := { Config.default with sound := { Config.soundBoard with bankedRom := .blank (4 * 0x8000) } } }

/-- A byte that names a bank, one that names none, and one that names a bank beyond the ROM; on both boards no other register
stands there. -/
theorem witness_BankSelect :
    boardOk (soundRunning 0x1700 []).myCfg = true ∧
    (0x2000 : Word).toNat = (soundRunning 0x1700 []).myCfg.bankSelect ∧
    (soundRunning 0x1700 []).active = .sound ∧ (0x2000 : Word).toNat ≠ (soundRunning 0x1700 []).cfg.latchReadAddr ∧
    bankOf (soundRunning 0x1700 []).myCfg 0x6F = some 15 ∧ 15 < (soundRunning 0x1700 []).myCfg.banks ∧
    bankOf (soundRunning 0x1700 []).myCfg 0xFF = none ∧
    (boardOk fewBanks.myCfg = true ∧ fewBanks.active = .sound ∧ (0x2000 : Word).toNat = fewBanks.myCfg.bankSelect ∧
      (0x2000 : Word).toNat ≠ fewBanks.cfg.latchReadAddr ∧ bankOf fewBanks.myCfg 0x6F = some 15 ∧
      ¬ 15 < fewBanks.myCfg.banks) ∧
    ((running []).active = .main ∧ (0x3FFC : Word).toNat = (running []).myCfg.bankSelect ∧
      (0x3FFC : Word).toNat ≠ (running []).cfg.watchdogAddr ∧ (0x3FFC : Word).toNat ≠ (running []).cfg.zeroCrossAddr ∧
      (0x3FFC : Word).toNat ≠ (running []).cfg.soundDataAddr) := by decide

/-- The suggested address serves both: the watchdog on a write, the zero-cross flag on a read. -/
theorem witness_WatchdogAndZeroCross :
    (running []).active = .main ∧ boardOk (running []).cfg.main = true ∧
    (0x3FFF : Word).toNat ≠ (running []).cfg.main.bankSelect ∧ (running []).cfg.main.ramEnd ≤ (0x3FFF : Word).toNat ∧
    (0x3FFF : Word).toNat < (running []).cfg.main.hwEnd ∧ (0x3FFF : Word).toNat = (running []).cfg.watchdogAddr ∧
    (0x3FFF : Word).toNat = (running []).cfg.zeroCrossAddr ∧ (0x3FFF : Word).toNat ≠ (running []).cfg.soundDataAddr := by
  decide

theorem witness_SoundLatch_write :
    (running []).active = .main ∧ boardOk (running []).cfg.main = true ∧
    (0x3FDC : Word).toNat = (running []).cfg.soundDataAddr ∧ (0x3FDC : Word).toNat ≠ (running []).cfg.main.bankSelect ∧
    (0x3FDC : Word).toNat ≠ (running []).cfg.watchdogAddr ∧ (running []).cfg.main.ramEnd ≤ (0x3FDC : Word).toNat ∧
    (0x3FDC : Word).toNat < (running []).cfg.main.hwEnd := by decide

theorem witness_SoundLatch_read :
    (soundRunning 0x1700 []).active = .sound ∧ boardOk (soundRunning 0x1700 []).cfg.sound = true ∧
    (0x3000 : Word).toNat = (soundRunning 0x1700 []).cfg.latchReadAddr ∧
    (0x3000 : Word).toNat ≠ (soundRunning 0x1700 []).cfg.sound.bankSelect ∧
    (soundRunning 0x1700 []).cfg.sound.ramEnd ≤ (0x3000 : Word).toNat ∧
    (0x3000 : Word).toNat < (soundRunning 0x1700 []).cfg.sound.hwEnd := by decide

/-- The main core of a board whose watchdog and zero-cross registers stand apart. -/
def apart : State := { running [] with cfg := { Config.default with watchdogAddr := 0x3FF0 } }

/-- An address of the window that is neither the bank-select register nor wired to a device. -/
def unwired (s : State) (a : Word) : Bool :=
  boardOk s.myCfg && decide (s.myCfg.ramEnd ≤ a.toNat) && decide (a.toNat < s.myCfg.hwEnd) &&
    decide (a.toNat ≠ s.myCfg.bankSelect) && !s.wired s.active a.toNat

/-- The first register of the main window and one of the sound window just after its bank-select register, both ways; and the
other direction of each owned register: written, the zero-cross and the latch-read register; read, the watchdog and the
sound-data register. -/
theorem witness_UnownedRegister :
    (unwired (running []) 0x3000 = true ∧ (running []).active = .main ∧
      (0x3000 : Word).toNat ≠ (running []).cfg.watchdogAddr ∧ (0x3000 : Word).toNat ≠ (running []).cfg.soundDataAddr ∧
      (0x3000 : Word).toNat ≠ (running []).cfg.zeroCrossAddr) ∧
    (unwired (soundRunning 0x1700 []) 0x2001 = true ∧ (soundRunning 0x1700 []).active = .sound ∧
      (0x2001 : Word).toNat ≠ (soundRunning 0x1700 []).cfg.latchReadAddr) ∧
    (unwired apart 0x3FFF = true ∧ apart.active = .main ∧ (0x3FFF : Word).toNat = apart.cfg.zeroCrossAddr ∧
      (0x3FFF : Word).toNat ≠ apart.cfg.watchdogAddr ∧ (0x3FFF : Word).toNat ≠ apart.cfg.soundDataAddr) ∧
    (unwired (soundRunning 0x1700 []) 0x3000 = true ∧
      (0x3000 : Word).toNat = (soundRunning 0x1700 []).cfg.latchReadAddr) ∧
    (unwired apart 0x3FF0 = true ∧ (0x3FF0 : Word).toNat = apart.cfg.watchdogAddr ∧
      (0x3FF0 : Word).toNat ≠ apart.cfg.zeroCrossAddr) ∧
    (unwired apart 0x3FDC = true ∧ (0x3FDC : Word).toNat = apart.cfg.soundDataAddr ∧
      (0x3FDC : Word).toNat ≠ apart.cfg.zeroCrossAddr) := by decide

theorem all_below {as : List Word} {n : Nat} (h : as.all (fun a => decide (a.toNat < n)) = true) : ∀ a ∈ as, a.toNat < n :=
  fun a ha => of_decide_eq_true (List.all_eq_true.mp h a ha)

theorem witness_PushPull :
    (running []).myCfg.acceptsPush ((running []).core.sp .s) (pushOrder 0x1234) = true ∧
    ((running []).bd (running []).active).ram.wf = true ∧ [(0x12 : Byte), 0x34].length ≤ 0x10000 ∧
    (∀ a ∈ pushAddrs ((running []).core.sp .s) [(0x12 : Byte), 0x34].length, a.toNat < (running []).myCfg.ramEnd) ∧
    (running []).myCfg.plain ((running []).core.sp .s) = true ∧
    (running []).myCfg.plain ((running []).core.sp .s + 1#16) = true :=
  ⟨by decide, by decide, by decide, all_below (by decide), by decide, by decide⟩

/-- Nothing is read to know an extended address. -/
theorem addresses_ext (s : State) (a : Word) : Addresses (.ext a) s a s :=
  ⟨rfl, ⟨_, _, _, _, _, _, ⟨_, _, _, _, _, id, rfl⟩, ⟨_, _, _, _, _, id, rfl⟩, by
    unfold State.modCore State.setCore State.setCoreOf MemOp.update State.core State.coreOf
    cases s.active <;> rfl⟩, fun _ => ⟨rfl, by
    unfold State.modCore State.setCore State.setCoreOf MemOp.update State.core State.coreOf
    cases s.active <;> rfl⟩⟩

/-- A byte stored in RAM, and one its register rejects. -/
theorem witness_Stores_byte :
    Addresses (.ext 0x1FFF) (soundRunning 0x1700 []) 0x1FFF (soundRunning 0x1700 []) ∧
    (soundRunning 0x1700 []).myCfg.rejects 0x1FFF ((soundRunning 0x1700 []).core.acc .a) = false ∧
    Addresses (.ext 0x2000) (soundRunning 0x1700 []) 0x2000 (soundRunning 0x1700 []) ∧
    (soundRunning 0x1700 []).myCfg.rejects 0x2000 ((soundRunning 0x1700 []).core.acc .a) = true :=
  ⟨addresses_ext _ _, by decide, addresses_ext _ _, by decide⟩

/-- A word stored in RAM, one whose high byte is rejected, one whose low byte is. -/
theorem witness_Stores_word :
    (soundRunning 0x1700 []).myCfg.rejects 0x1FFE (hiByte ((soundRunning 0x1700 []).core.get16 (wideReg .d))) = false ∧
    (soundRunning 0x1700 []).myCfg.rejects (0x1FFE + 1#16) (loByte ((soundRunning 0x1700 []).core.get16 (wideReg .d))) =
      false ∧
    (soundRunning 0x1700 []).myCfg.rejects 0x2000 (hiByte ((soundRunning 0x1700 []).core.get16 (wideReg .d))) = true ∧
    (soundRunning 0x1700 []).myCfg.rejects 0x1FFF (hiByte ((soundRunning 0x1700 []).core.get16 (wideReg .d))) = false ∧
    (soundRunning 0x1700 []).myCfg.rejects (0x1FFF + 1#16) (loByte ((soundRunning 0x1700 []).core.get16 (wideReg .d))) =
      true := by decide

theorem witness_Sub8_Logic8 :
    (Bin8.sub = .sub ∨ Bin8.sub = .sbc ∨ Bin8.sub = .cmp) ∧ (Bin8.cmp = .sub ∨ Bin8.cmp = .sbc ∨ Bin8.cmp = .cmp) ∧
    ((Bin8.and = .and ∧ 0x84 = 0x84) ∨ (Bin8.and = .or ∧ 0x84 = 0x8A) ∨ (Bin8.and = .eor ∧ 0x84 = 0x88) ∨
      (Bin8.and = .bit ∧ 0x84 = 0x85)) := by decide

/-- `CLR` of the RAM byte below the window is written; `CLR` and `NEG` of the register itself are rejected; `TST` writes
nothing. -/
theorem witness_UnaryMemory :
    (soundRunning 0x1700 []).myCfg.rejects 0x1FFF (Un8.clr.effect (soundRunning 0x1700 []).core.cc 0x55).1 = false ∧
    Un8.clr ≠ .tst ∧ Un8.neg ≠ .tst ∧
    (soundRunning 0x1700 []).myCfg.rejects 0x2000 (Un8.clr.effect (soundRunning 0x1700 []).core.cc 0x55).1 = true ∧
    (soundRunning 0x1700 []).myCfg.rejects 0x2000 (Un8.neg.effect (soundRunning 0x1700 []).core.cc 0x00).1 = true := by
  decide

/-- All eight registers pushed to RAM, and a stack pointer whose second byte lands on the bank-select register. -/
theorem witness_PushRegisters :
    (running []).myCfg.acceptsPush ((running []).core.sp .s) (pushList .s 0xFF (running []).core) = true ∧
    (soundRunning 0x2001 []).myCfg.acceptsPush ((soundRunning 0x2001 []).core.sp .s)
      (pushList .s 0x02 (soundRunning 0x2001 []).core) = false := by decide

theorem witness_PullRegisters :
    (running []).myCfg.plainRange ((running []).core.sp .s) (stackBytes 0xFF) = true ∧
    (running []).myCfg.plainRange ((running []).core.sp .u) (stackBytes 0x00) = true := by decide

theorem witness_Calls :
    (running []).myCfg.acceptsPush (running []).core.s (pushOrder (running []).core.pc) = true ∧
    (soundRunning 0x2001 []).myCfg.acceptsPush (soundRunning 0x2001 []).core.s
      (pushOrder (soundRunning 0x2001 []).core.pc) = false := by decide

theorem witness_SoftwareInterrupts :
    boardOk (running []).myCfg = true ∧
    (running []).myCfg.acceptsPush (running []).core.s
      (fullFrame ((running []).modCore fun c => { c with cc := { c.cc with e := true } }).core) = true ∧
    boardOk (soundRunning 0x2001 []).myCfg = true ∧
    (soundRunning 0x2001 []).myCfg.acceptsPush (soundRunning 0x2001 []).core.s
      (fullFrame ((soundRunning 0x2001 []).modCore fun c => { c with cc := { c.cc with e := true } }).core) = false := by
  decide

/-- A stacked CC with E set, and one with E clear. -/
theorem witness_ReturnFromInterrupt :
    let full := start [] [(0x16F4, [0x80])] fun c => { c with s := 0x16F4 }
    let short := start [] [(0x16FD, [0x01])] fun c => { c with s := 0x16FD }
    full.myCfg.plainRange full.core.s 12 = true ∧ (CC.ofByte (full.at full.core.s)).e = true ∧
    short.myCfg.plainRange short.core.s 3 = true ∧ (CC.ofByte (short.at short.core.s)).e = false := by decide

theorem witness_ClearAndWait :
    (running []).myCfg.acceptsPush (running []).core.s (fullFrame ((running []).modCore fun c =>
      { c with cc := { CC.ofByte (c.cc.toByte &&& 0xEF) with e := true } }).core) = true ∧
    (soundRunning 0x2001 []).myCfg.acceptsPush (soundRunning 0x2001 []).core.s
      (fullFrame ((soundRunning 0x2001 []).modCore fun c =>
        { c with cc := { CC.ofByte (c.cc.toByte &&& 0xEF) with e := true } }).core) = false := by decide

/-- An unmasked IRQ on a running core. -/
def irqDue : State := (running [0x12]).modCore fun c => { flags 0x00 c with pendingIRQ := true }

/-- An unmasked FIRQ beside it. -/
def firqDue : State := irqDue.modCore fun c => { c with pendingFIRQ := true }

theorem witness_InterruptService :
    (boardOk irqDue.myCfg = true ∧ irqDue.core.wait ≠ .cwai ∧
      ¬ (irqDue.cfg.hasNmi = true ∧ irqDue.core.pendingNMI = true ∧ irqDue.core.nmiArmed = true) ∧
      ¬ (irqDue.core.pendingFIRQ = true ∧ irqDue.core.cc.f = false) ∧
      (irqDue.core.pendingIRQ = true ∧ irqDue.core.cc.i = false) ∧
      irqDue.myCfg.acceptsPush irqDue.core.s (fullFrame (irqDue.modCore fun c =>
        { c with wait := .run, cc := { c.cc with e := true } }).core) = true) ∧
    (boardOk firqDue.myCfg = true ∧ firqDue.core.wait ≠ .cwai ∧
      ¬ (firqDue.cfg.hasNmi = true ∧ firqDue.core.pendingNMI = true ∧ firqDue.core.nmiArmed = true) ∧
      (firqDue.core.pendingFIRQ = true ∧ firqDue.core.cc.f = false) ∧
      firqDue.myCfg.acceptsPush firqDue.core.s (pushOrder firqDue.core.pc ++ [0x00]) = true) ∧
    (boardOk (withNmi firqDue).myCfg = true ∧ (withNmi firqDue).core.wait ≠ .cwai ∧
      ((withNmi firqDue).cfg.hasNmi = true ∧ (withNmi firqDue).core.pendingNMI = true ∧
        (withNmi firqDue).core.nmiArmed = true) ∧
      (withNmi firqDue).myCfg.acceptsPush (withNmi firqDue).core.s (fullFrame (withNmi firqDue).core) = true) := by decide

/-- A core in a wait state. -/
def waiting (w : Wait) (s : State) : State := s.modCore fun c => { c with wait := w }

/-- Running with none due; waiting in `SYNC` with nothing pending, and with a masked latch pending; waiting in `CWAI` with
nothing due, and with each of the three. -/
theorem witness_WaitingCore :
    ((running []).core.wait = .run ∧ (running []).core.due (running []).cfg.hasNmi = none) ∧
    ((waiting .sync (running [])).core.wait = .sync ∧ (waiting .sync (running [])).core.anyPending false = false) ∧
    ((waiting .sync ((running []).irq .main)).core.wait = .sync ∧
      (waiting .sync ((running []).irq .main)).core.pendingIRQ = true ∧
      (waiting .sync ((running []).irq .main)).core.due false = none) ∧
    ((waiting .cwai (running [])).core.wait = .cwai ∧ (waiting .cwai (running [])).core.due false = none) ∧
    ((waiting .cwai (withNmi firqDue)).core.wait = .cwai ∧ boardOk (waiting .cwai (withNmi firqDue)).myCfg = true ∧
      (waiting .cwai (withNmi firqDue)).core.due true = some .nmi) ∧
    ((waiting .cwai firqDue).core.wait = .cwai ∧ boardOk (waiting .cwai firqDue).myCfg = true ∧
      (waiting .cwai firqDue).core.due false = some .firq) ∧
    ((waiting .cwai irqDue).core.wait = .cwai ∧ boardOk (waiting .cwai irqDue).myCfg = true ∧
      (waiting .cwai irqDue).core.due false = some .irq) := by decide

/-- The three software interrupts; an IRQ and an NMI that are due; and `CWAI` with an IRQ, a FIRQ and an NMI that end it. -/
theorem witness_RtiUndoesEntry :
    (((running []).bd (running []).active).ram.wf = true ∧
      (∀ a ∈ pushAddrs (running []).core.s 12, a.toNat < (running []).myCfg.ramEnd)) ∧
    ((irqDue.bd irqDue.active).ram.wf = true ∧ (∀ a ∈ pushAddrs irqDue.core.s 12, a.toNat < irqDue.myCfg.ramEnd) ∧
      irqDue.core.wait ≠ .cwai ∧ irqDue.core.due irqDue.cfg.hasNmi = some .irq ∧ Entry.irq ≠ .firq) ∧
    (((withNmi firqDue).bd (withNmi firqDue).active).ram.wf = true ∧
      (∀ a ∈ pushAddrs (withNmi firqDue).core.s 12, a.toNat < (withNmi firqDue).myCfg.ramEnd) ∧
      (withNmi firqDue).core.wait ≠ .cwai ∧ (withNmi firqDue).core.due (withNmi firqDue).cfg.hasNmi = some .nmi) ∧
    (∃ t, exec (.cwai 0xAF) (withNmi firqDue) = .next t ∧ ∀ k ∈ [Entry.irq, .firq, .nmi],
      (t.modCore fun c => { c with
        pendingIRQ := true, pendingFIRQ := decide (k ≠ .irq), pendingNMI := decide (k = .nmi), nmiArmed := true }).core.due
          t.cfg.hasNmi = some k) := by
  refine ⟨⟨by decide, all_below (by decide)⟩, ⟨by decide, all_below (by decide), by decide, by decide, by decide⟩,
    ⟨by decide, all_below (by decide), by decide, by decide⟩, _, rfl, fun k hk => ?_⟩
  simp only [List.mem_cons, List.not_mem_nil, or_false] at hk
  rcases hk with rfl | rfl | rfl <;> rfl

/-- A machine with the host's calls queued. -/
def queued (hosts : List HostCall) (s : State) : State := { s with host := hosts }

/-- Each line's call, and the NMI's on a machine that has one and on one that has none. -/
theorem witness_InterruptLines :
    (running []).fatal = none ∧ (running []).lock = .idle .main ∧
    (∀ k ∈ [HostCall.irq .sound, .firq .main, .clearIrqMasking .sound, .nmi .main],
      (queued [k] (running [])).host = k :: [] ∧ (queued [k] (running [])).fatal = none) ∧
    (running []).cfg.hasNmi = false ∧
    (queued [.nmi .main] (withNmi (running []))).fatal = none ∧
    (queued [.nmi .main] (withNmi (running []))).lock = .idle .main ∧
    (queued [.nmi .main] (withNmi (running []))).host = .nmi .main :: [] ∧
    (queued [.nmi .main] (withNmi (running []))).cfg.hasNmi = true :=
  ⟨rfl, rfl, fun _ _ => ⟨rfl, rfl⟩, rfl, rfl, rfl, rfl, rfl⟩

/-- A zero-cross event and a periodic IRQ that fall due in one advance. -/
theorem witness_ControllerAdvance :
    ticksOk (running []).cfg = true ∧ (running []).ctl.zcCounter + 20000 ≤ 20000 ∧
    (running []).ctl.irqCounter + 20000 ≤ 20000 := by decide

theorem witness_SoundBudgetSum_TimerHack :
    1 ≤ (running []).cfg.soundClkDen ∧ (running []).soundCarry = 0 ∧ 1 ≤ (running []).cfg.firqHackTicks ∧
    (running []).firqHackCounter + 7 ≤ 7 := by decide

/-- Inside `steps(n)` of the main core. -/
def inSteps (rom : List Byte) (n done : Nat) : State := { running rom with lock := .steps .main n done }

/-- A step of two cycles with more to go, one that reaches `n`, and one that is fatal; and the two calls about to start. -/
theorem witness_StepsReturn :
    (∀ n, n = 5 ∨ n = 2 → (inSteps [0x12] n 0).cfg.cycles = Config.mc6809Cycles ∧ (inSteps [0x12] n 0).fatal = none ∧
      (inSteps [0x12] n 0).lock = .steps .main n 0 ∧ 0 < n ∧ ∃ t, step (inSteps [0x12] n 0) = .next t) ∧
    (∃ t, step (inSteps [0x01] 5 0) = .next t ∧ t.fatal ≠ none) ∧
    ((running []).fatal = none ∧ (running []).lock = .idle .main ∧
      (queued [.steps .main 0] (running [])).host = .steps .main 0 :: [] ∧
      (queued [.steps .sound 5] (running [])).host = .steps .sound 5 :: [] ∧
      (queued [.step .sound] (running [])).host = .step .sound :: []) := by
  refine ⟨fun n hn => ?_, ?_, rfl, rfl, rfl, rfl, rfl⟩
  · rcases hn with rfl | rfl <;> exact ⟨rfl, rfl, rfl, by decide, _, rfl⟩
  · exact ⟨_, rfl, by decide⟩

/-- At a place inside `executeCycles`. -/
def inCall (l : Lock) : State := { (running [0x12]).pokeList .sound 0x0000 [0x12] with lock := l }

/-- Each of the four phases takes a step, and the last of them ends the call. -/
theorem witness_SubStepOrder_ExecuteCyclesAccounts :
    (∃ t, step (inCall (.mainSlice ⟨10, 5, 0⟩ 5 0)) = .next t ∧ (inCall (.mainSlice ⟨10, 5, 0⟩ 5 0)).fatal = none ∧
      t.fatal = none ∧ t.lock.call = some ⟨10, 5, 0⟩ ∧ t.lock.ticks = 2) ∧
    (∃ t, step (inCall (.control ⟨10, 5, 0⟩ 6)) = .next t ∧ ticksOk (inCall (.control ⟨10, 5, 0⟩ 6)).cfg = true ∧
      t.fatal = none ∧ t.lock.call = some ⟨10, 5, 6⟩) ∧
    (∃ t, step (inCall (.soundSlice ⟨10, 5, 6⟩ 6 4)) = .next t ∧ t.fatal = none ∧ t.lock.call = some ⟨10, 5, 6⟩) ∧
    (∃ t, step (inCall (.soundEnd ⟨10, 5, 10⟩ 2)) = .next t ∧ ticksOk (inCall (.soundEnd ⟨10, 5, 10⟩ 2)).cfg = true ∧
      t.fatal = none ∧ t.lock.call = none) ∧
    (∃ t, step (queued [.executeCycles 10 5] (running [])) = .next t ∧ t.lock = .mainSlice ⟨10, 5, 0⟩ 5 0) ∧
    (∃ t, step (queued [.executeCycles 0 1] (running [])) = .next t ∧ t.lock = .idle .main ∧ t.ret = some 0) ∧
    (queued [.executeCycles 10 0] (running [])).host = .executeCycles 10 0 :: [] :=
  ⟨⟨_, rfl, rfl, rfl, rfl, rfl⟩, ⟨_, rfl, rfl, rfl, rfl⟩, ⟨_, rfl, rfl, rfl⟩, ⟨_, rfl, rfl, rfl, rfl⟩, ⟨_, rfl, rfl⟩,
    ⟨_, rfl, rfl, rfl⟩, rfl⟩

/-- At the ends of the bound: a slice with one tick left of the call, and the last one with 19 cycles too many. -/
theorem witness_bounded :
    (inCall (.mainSlice ⟨10, 5, 5⟩ 5 4)).lock.bounded ∧ (inCall (.control ⟨10, 5, 9⟩ 20)).lock.bounded ∧
    (inCall (.soundEnd ⟨10, 5, 29⟩ 2)).lock.bounded ∧ (running []).lock.bounded ∧
    (inCall (.soundEnd ⟨10, 5, 29⟩ 2)).cfg.cycles = Config.mc6809Cycles :=
  ⟨⟨by decide, by decide, by decide⟩, ⟨by decide, by decide⟩, ⟨by decide, by decide⟩, trivial, rfl⟩

theorem witness_ResetBoard : boardOk (running []).cfg.main = true ∧ boardOk (running []).cfg.sound = true := by decide

/-- Halted, with nothing queued, a reset queued, and a board's reset queued. -/
def halted (host : List HostCall) : State := { running [] with fatal := some (.bankError .sound 0xFF), host := host }

theorem witness_HaltedMachine :
    (halted []).fatal ≠ none ∧ (∀ ks, (halted []).host ≠ .reset :: ks) ∧ (∀ b ks, (halted []).host ≠ .resetBoard b :: ks) ∧
    (halted [.reset]).fatal ≠ none ∧ (halted [.reset]).host = .reset :: [] ∧
    (halted [.resetBoard .sound]).fatal ≠ none ∧ (halted [.resetBoard .sound]).host = .resetBoard .sound :: [] :=
  ⟨nofun, nofun, nofun, nofun, rfl, nofun, rfl⟩

theorem witness_CompareOrders : ∃ t, exec (Instr.bin8 .cmp .a (.imm 0x80)) (running []) = .next t := ⟨_, rfl⟩

theorem witness_NoStoreKeepsMemory : Instr.stores .rts = false ∧ ∃ t, exec .rts (running []) = .next t := ⟨rfl, _, rfl⟩

theorem witness_OtherBoard_OtherMemory :
    Board.sound ≠ (running [0x12]).active ∧ ∃ t, coreStep (running [0x12]) = .next t := ⟨nofun, _, rfl⟩

/-- A machine in the middle of a run meets the invariant, and steps. -/
theorem witness_StepKeepsInv : (running [0x97, 0x10]).Inv ∧ ∃ t, step (running [0x97, 0x10]) = .next t := by
  refine ⟨⟨by decide, ?_, ?_, ?_, by decide, by decide, by decide, by decide, ?_, ?_⟩, _, rfl⟩
  · unfold BoardState.ok; decide
  · unfold BoardState.ok; decide
  · rfl
  · exact fun _ => ⟨rfl, rfl⟩
  · exact fun _ => ⟨rfl, rfl⟩

end Sys2Proof.Tests
end

section
/-! The state at power-on meets the invariant for every configuration that 00_scope.md R7 accepts; the state after reset is
the one of the suggested defaults. -/

namespace Sys2Proof.Machine

/-! ### What an accepted configuration says -/

theorem ramImage_of_mapOk {c : BoardCfg} (h : mapOk c = true) :
    c.ramImage.wf = true ∧ c.ramImage.below c.ramSize = true := by
  simp only [mapOk, Bool.and_eq_true] at h
  obtain ⟨⟨⟨⟨_, hwf⟩, hbelow⟩, _⟩, _⟩ := h
  exact ⟨hwf, hbelow⟩

theorem banks_pos_of_romsOk {c : BoardCfg} (h : romsOk c = true) : 0 < c.banks := by
  simp only [romsOk, Bool.and_eq_true, decide_eq_true_eq] at h
  obtain ⟨_, hbanks⟩ := h
  exact hbanks

/-- An accepted configuration has two accepted maps with their ROMs, and its counts are accepted. -/
theorem parts_of_cfgOk {c : Cfg} (h : cfgOk c = true) :
    (mapOk c.main = true ∧ romsOk c.main = true) ∧ (mapOk c.sound = true ∧ romsOk c.sound = true) ∧
      ticksOk c = true := by
  simp only [cfgOk, descOk, Bool.and_eq_true] at h
  obtain ⟨⟨⟨⟨⟨⟨⟨⟨hmain, hsound⟩, hticks⟩, _⟩, _⟩, _⟩, _⟩, hmainRoms⟩, hsoundRoms⟩ := h
  exact ⟨⟨hmain, hmainRoms⟩, ⟨hsound, hsoundRoms⟩, hticks⟩

/-- No period, threshold or clock denominator is 0 (93_implementation_defined.md U16). -/
theorem ticksOk_iff {c : Cfg} : ticksOk c = true ↔
    0 < c.watchdogReload ∧ 0 < c.zeroCrossPeriod ∧ 0 < c.irqPeriod ∧ 0 < c.firqHackTicks ∧ 0 < c.soundClkDen := by
  simp only [ticksOk, Bool.and_eq_true, decide_eq_true_eq, Nat.succ_le_iff, and_assoc]

/-! ### Each part at power-on -/

/-- RAM is the configured image, the register shadow lists nothing, and bank 0 is a bank of the ROM (R486, R489). -/
theorem BoardState.atPowerOn_ok (r : ResetRegs) {c : BoardCfg} (hmap : mapOk c = true)
    (hroms : romsOk c = true) : (BoardState.atPowerOn r c).ok c := by
  obtain ⟨hwf, hbelow⟩ := ramImage_of_mapOk hmap
  exact ⟨hwf, hbelow, rfl, rfl, banks_pos_of_romsOk hroms⟩

/-- The watchdog is idle with its counter at the reload value (R487). -/
theorem Controller.atReset_watchdogOk (c : Cfg) : (Controller.atReset c).watchdogOk c := rfl

theorem Core.atReset_nmiOk (r : ResetRegs) (pc : Word) (hasNmi : Bool) : (Core.atReset r pc).nmiOk hasNmi :=
  fun _ => ⟨rfl, rfl⟩

/-! ### The whole machine -/

/-- Every counter starts at 0, below its period; the watchdog's is at its reload value. -/
theorem State.powerOn_inv {c : Cfg} (h : cfgOk c = true) : (State.powerOn c).Inv := by
  obtain ⟨⟨hmain, hmainRoms⟩, ⟨hsound, hsoundRoms⟩, hticks⟩ := parts_of_cfgOk h
  obtain ⟨-, hzero, hirq, hhack, hden⟩ := ticksOk_iff.mp hticks
  exact {
    cfg := h
    main := BoardState.atPowerOn_ok c.resetRegs hmain hmainRoms
    sound := BoardState.atPowerOn_ok c.resetRegs hsound hsoundRoms
    watchdog := Controller.atReset_watchdogOk c
    zeroCross := hzero
    periodic := hirq
    carry := hden
    firqHack := hhack
    nmiMain := Core.atReset_nmiOk c.resetRegs _ _
    nmiSound := Core.atReset_nmiOk c.resetRegs _ _ }

/-- The suggested defaults of R7, with the choices of log entries 3 and 6, are an accepted configuration. -/
theorem cfgOk_default : cfgOk Config.default = true := by decide

end Sys2Proof.Machine

namespace Sys2Proof

/-- Settles O59: reset is power-on with the default configuration, which R7 accepts. -/
theorem resetMeetsInv : Obligations.ResetMeetsInv :=
  Machine.State.powerOn_inv Machine.cfgOk_default

end Sys2Proof
end

section
/-! The invariant of a run is kept by every step of the machine: first by each update of the state, then by each bus
access, hence by a core's step, then by the controller, the end of a sub-step, the resets and the host's calls. -/

namespace Sys2Proof.Machine

set_option Elab.async false

/-! ### A board and a core -/

theorem ramEnd_le_ramSize_of_mapOk {c : BoardCfg} (h : mapOk c = true) : c.ramEnd ≤ c.ramSize := by
  simp only [mapOk, Bool.and_eq_true, decide_eq_true_eq] at h
  obtain ⟨⟨⟨⟨⟨_, hram⟩, _⟩, _⟩, _⟩, _⟩ := h
  exact hram

/-- Only a bank of the ROM is accepted (20_memory.md R80). -/
theorem acceptedBank_lt {c : BoardCfg} {v : Byte} {i : Nat} (h : acceptedBank c v = some i) : i < c.banks := by
  unfold acceptedBank at h
  split at h
  · split at h
    · cases h; assumption
    · cases h
  · cases h

theorem BoardState.ok_writeRam {v : BoardState} {c : BoardCfg} (h : v.ok c) {a : Nat} (ha : a < c.ramSize) (x : Byte) :
    BoardState.ok { v with ram := v.ram.write a x } c := by
  obtain ⟨hwf, hbelow, hshadow⟩ := h
  exact ⟨Memory.wf_write hwf a x, Memory.below_write hbelow ha x, hshadow⟩

theorem BoardState.ok_writeShadow {v : BoardState} {c : BoardCfg} (h : v.ok c) {a : Nat} (ha : a < c.hwEnd) (x : Byte) :
    BoardState.ok { v with hwShadow := v.hwShadow.write a x } c := by
  obtain ⟨hramWf, hramBelow, hwf, hbelow, hbank⟩ := h
  exact ⟨hramWf, hramBelow, Memory.wf_write hwf a x, Memory.below_write hbelow ha x, hbank⟩

theorem BoardState.ok_withBank {v : BoardState} {c : BoardCfg} (h : v.ok c) {i : Nat} (hi : i < c.banks) :
    BoardState.ok { v with bank := i } c := by
  obtain ⟨hramWf, hramBelow, hwf, hbelow, -⟩ := h
  exact ⟨hramWf, hramBelow, hwf, hbelow, hi⟩

/-- The lines are no part of the NMI state (60_exceptions.md R408 to R410). -/
theorem Core.SameButLines.nmiOk {c d : Core} (h : c.SameButLines d) {hasNmi : Bool} (hc : c.nmiOk hasNmi) :
    d.nmiOk hasNmi := by
  obtain ⟨_, _, _, _, _, _, rfl⟩ := h
  exact hc

theorem CoreChange.nmiOk {hasNmi : Bool} {f : Core → Core} (hf : CoreChange hasNmi f) {c : Core}
    (hc : c.nmiOk hasNmi) : (f c).nmiOk hasNmi := by
  intro hno
  obtain ⟨hpending, harmed⟩ := hc hno
  obtain ⟨kpending, karmed, -⟩ := hf c
  simp only [hpending, harmed, hno, Bool.false_eq_true, or_self, imp_false, Bool.not_eq_true] at kpending karmed
  exact ⟨kpending, karmed⟩

/-! ### The watchdog -/

/-- A service reloads the counter; an expired watchdog becomes idle and any other is armed (60_exceptions.md R432,
R433). -/
theorem Controller.service_watchdogOk {c : Cfg} (hreload : 0 < c.watchdogReload) (k : Controller) :
    (k.service c.watchdogReload).watchdogOk c := by
  unfold Controller.service Controller.watchdogOk
  cases k.wdState with
  | idle => exact ⟨hreload, Nat.le_refl _⟩
  | armed => exact ⟨hreload, Nat.le_refl _⟩
  | expired => rfl

/-- An armed watchdog counts down and stays above 0, or expires at 0; any other does not move (R431, R432). -/
theorem Controller.watchdog_watchdogOk {k : Controller} {c : Cfg} (h : k.watchdogOk c) (t : Nat) :
    (k.watchdog t).watchdogOk c := by
  unfold Controller.watchdog
  split
  · rename_i harmed
    simp only [Controller.watchdogOk, harmed] at h
    split
    · simp only [Controller.watchdogOk, harmed]
      omega
    · rfl
  · exact h

@[simp] theorem Controller.watchdog_zcCounter (k : Controller) (t : Nat) : (k.watchdog t).zcCounter = k.zcCounter := by
  unfold Controller.watchdog
  split
  · split <;> rfl
  · rfl

@[simp] theorem Controller.watchdog_irqCounter (k : Controller) (t : Nat) : (k.watchdog t).irqCounter = k.irqCounter := by
  unfold Controller.watchdog
  split
  · split <;> rfl
  · rfl

/-! ### The invariant and each update of the state -/

section
variable {s t : State}

/-- The invariant speaks of six fields only. -/
theorem State.Inv.congr (h : s.Inv) (cfg : t.cfg = s.cfg := by rfl) (main : t.main = s.main := by rfl)
    (sound : t.sound = s.sound := by rfl) (ctl : t.ctl = s.ctl := by rfl)
    (soundCarry : t.soundCarry = s.soundCarry := by rfl)
    (firqHackCounter : t.firqHackCounter = s.firqHackCounter := by rfl) : t.Inv := by
  constructor <;> simp only [cfg, main, sound, ctl, soundCarry, firqHackCounter]
  case cfg => exact h.cfg
  case main => exact h.main
  case sound => exact h.sound
  case watchdog => exact h.watchdog
  case zeroCross => exact h.zeroCross
  case periodic => exact h.periodic
  case carry => exact h.carry
  case firqHack => exact h.firqHack
  case nmiMain => exact h.nmiMain
  case nmiSound => exact h.nmiSound

theorem State.Inv.mapOk (h : s.Inv) (b : Board) : mapOk (s.cfg.board b) = true := by
  obtain ⟨⟨hmain, -⟩, ⟨hsound, -⟩, -⟩ := parts_of_cfgOk h.cfg
  cases b
  · exact hmain
  · exact hsound

theorem State.Inv.banks_pos (h : s.Inv) (b : Board) : 0 < (s.cfg.board b).banks := by
  obtain ⟨⟨-, hmain⟩, ⟨-, hsound⟩, -⟩ := parts_of_cfgOk h.cfg
  cases b
  · exact banks_pos_of_romsOk hmain
  · exact banks_pos_of_romsOk hsound

/-- No period, threshold or clock denominator is 0. -/
theorem State.Inv.periods_pos (h : s.Inv) : 0 < s.cfg.watchdogReload ∧ 0 < s.cfg.zeroCrossPeriod ∧
    0 < s.cfg.irqPeriod ∧ 0 < s.cfg.firqHackTicks ∧ 0 < s.cfg.soundClkDen := by
  obtain ⟨-, -, hticks⟩ := parts_of_cfgOk h.cfg
  exact ticksOk_iff.mp hticks

theorem State.Inv.bd_ok (h : s.Inv) (b : Board) : (s.bd b).ok (s.cfg.board b) := by
  cases b
  · exact h.main
  · exact h.sound

theorem State.Inv.coreOf_nmiOk (h : s.Inv) (b : Board) : (s.coreOf b).nmiOk s.cfg.hasNmi := by
  cases b
  · exact h.nmiMain
  · exact h.nmiSound

theorem State.Inv.setBd (h : s.Inv) {b : Board} {v : BoardState} (hok : v.ok (s.cfg.board b))
    (hnmi : v.core.nmiOk s.cfg.hasNmi) : (s.setBd b v).Inv := by
  cases b
  · exact { h with main := hok, nmiMain := hnmi }
  · exact { h with sound := hok, nmiSound := hnmi }

theorem State.Inv.setCoreOf (h : s.Inv) {b : Board} {c : Core} (hnmi : c.nmiOk s.cfg.hasNmi) :
    (s.setCoreOf b c).Inv :=
  h.setBd (h.bd_ok b) hnmi

theorem State.Inv.setCtl (h : s.Inv) {k : Controller} (hwatchdog : k.watchdogOk s.cfg)
    (hzero : k.zcCounter < s.cfg.zeroCrossPeriod) (hirq : k.irqCounter < s.cfg.irqPeriod) :
    State.Inv { s with ctl := k } :=
  { h with watchdog := hwatchdog, zeroCross := hzero, periodic := hirq }

theorem State.Inv.setRam (h : s.Inv) {b : Board} {a : Nat} (ha : a < (s.cfg.board b).ramEnd) (v : Byte) :
    (s.setRam b a v).Inv :=
  h.setBd (BoardState.ok_writeRam (h.bd_ok b) (Nat.lt_of_lt_of_le ha (ramEnd_le_ramSize_of_mapOk (h.mapOk b))) v)
    (h.coreOf_nmiOk b)

theorem State.Inv.setShadow (h : s.Inv) {b : Board} {a : Nat} (ha : a < (s.cfg.board b).hwEnd) (v : Byte) :
    (s.setShadow b a v).Inv :=
  h.setBd (BoardState.ok_writeShadow (h.bd_ok b) ha v) (h.coreOf_nmiOk b)

theorem State.Inv.setBank (h : s.Inv) {b : Board} {i : Nat} (hi : i < (s.cfg.board b).banks) : (s.setBank b i).Inv :=
  h.setBd (BoardState.ok_withBank (h.bd_ok b) hi) (h.coreOf_nmiOk b)

/-- What a read may change, the lines and the flags of the devices, is no part of the invariant. -/
theorem State.Inv.of_readEffect (h : s.Inv) (e : s.ReadEffect t) : t.Inv := by
  obtain ⟨_, _, _, _, _, _, hmain, hsound, rfl⟩ := e
  exact { h with nmiMain := hmain.nmiOk h.nmiMain, nmiSound := hsound.nmiOk h.nmiSound }

theorem State.Inv.irq (h : s.Inv) (b : Board) : (s.irq b).Inv := h.of_readEffect (s.readEffect_irq b)

theorem State.Inv.firq (h : s.Inv) (b : Board) : (s.firq b).Inv := h.of_readEffect (s.readEffect_firq b)

theorem State.Inv.tick (h : s.Inv) (n : Nat) : (s.tick n).Inv := h.setCoreOf (h.coreOf_nmiOk s.active)

end

/-! ### Bus accesses and a core's step -/

section
variable {s : State}

theorem State.Inv.selectBank (h : s.Inv) (b : Board) (v : Byte) : (after (selectBank b v s)).Inv := by
  unfold Machine.selectBank
  split
  · rename_i haccepted
    exact h.setBank (acceptedBank_lt haccepted)
  · exact h.congr

theorem State.Inv.portWrite (h : s.Inv) (b : Board) (off : Nat) (v : Byte) : (s.portWrite b off v).Inv := by
  have hcall := h.of_readEffect (s.readEffect_devCall (.write b off v))
  unfold State.portWrite
  split
  · split
    · exact hcall
    · exact hcall.congr
  · exact h.congr

/-- A register write: the byte in the shadow, then the owner's action. -/
theorem State.Inv.hwWrite (h : s.Inv) {b : Board} {off : Nat} (hoff : off < (s.cfg.board b).hwEnd) (v : Byte) :
    (after (hwWrite b off v s)).Inv := by
  have hshadow := h.setShadow hoff v
  unfold Machine.hwWrite
  dsimp only
  split
  · exact hshadow.selectBank b v
  · split
    · obtain ⟨hreload, -⟩ := hshadow.periods_pos
      exact hshadow.setCtl (Controller.service_watchdogOk hreload _) hshadow.zeroCross hshadow.periodic
    · split
      · exact State.Inv.irq hshadow.congr .sound
      · exact hshadow.portWrite b off v

theorem State.Inv.busWrite (h : s.Inv) (b : Board) (a : Nat) (v : Byte) : (after (busWrite b a v s)).Inv := by
  unfold Machine.busWrite
  split
  · rename_i hram
    obtain ⟨-, hlt, rfl⟩ := decodeAddr_ram.mp hram
    exact h.setRam hlt v
  · rename_i hhw
    obtain ⟨-, hwindow, rfl⟩ := decodeAddr_hardware.mp hhw
    simp only [inWindow, Bool.and_eq_true, decide_eq_true_eq] at hwindow
    exact h.hwWrite hwindow.2 v
  · exact h
  · exact h.congr

theorem State.Inv.busRead (h : s.Inv) (b : Board) (a : Nat) : (after (busRead b a s)).Inv := by
  unfold Machine.busRead
  split
  · exact h.of_readEffect (s.readEffect_hwRead b _)
  · exact h
  · exact h.congr

end

/-- The invariant holds across every part of a core's step. -/
theorem stepRel_inv : StepRel true fun s t => s.Inv → t.Inv where
  refl _ := id
  trans hst htu := htu ∘ hst
  core s _ hf h := h.setCoreOf (hf.nmiOk (h.coreOf_nmiOk s.active))
  read s a _ h := h.busRead s.active a
  write _ s a v h := h.busWrite s.active a v
  fatal _ _ h := h.congr

theorem coreStep_inv {s t : State} (h : s.Inv) (hstep : coreStep s = .next t) : t.Inv :=
  rel_coreStep stepRel_inv (fun _ n h => h.tick n) hstep h

/-! ### The controller and the end of a sub-step -/

/-- What a change keeps, the change made `n` times keeps. -/
theorem iterate_inv {f : State → State} (hf : ∀ s, s.Inv → (f s).Inv) (n : Nat) {s : State} (h : s.Inv) :
    (iterate f n s).Inv := by
  induction n generalizing s with
  | zero => exact h
  | succ n ih => exact ih (hf s h)

section
variable {s : State}

theorem State.Inv.zeroCrossEvent (h : s.Inv) : s.zeroCrossEvent.Inv := by
  unfold State.zeroCrossEvent
  dsimp only
  split
  · refine State.Inv.irq ?_ .main
    exact h.setCtl h.watchdog h.zeroCross h.periodic
  · exact h.setCtl h.watchdog h.zeroCross h.periodic

theorem State.Inv.periodicIrq (h : s.Inv) : s.periodicIrq.Inv := by
  unfold State.periodicIrq
  split
  · exact h.irq .main
  · exact h

theorem State.Inv.advanceZeroCross (h : s.Inv) (t : Nat) : (s.advanceZeroCross t).Inv := by
  obtain ⟨-, hzero, -⟩ := h.periods_pos
  exact iterate_inv (fun _ h => h.zeroCrossEvent) _ (h.setCtl h.watchdog (Nat.mod_lt _ hzero) h.periodic)

theorem State.Inv.advanceIrq (h : s.Inv) (t : Nat) : (s.advanceIrq t).Inv := by
  obtain ⟨-, -, hirq, -⟩ := h.periods_pos
  exact iterate_inv (fun _ h => h.periodicIrq) _ (h.setCtl h.watchdog h.zeroCross (Nat.mod_lt _ hirq))

theorem State.Inv.advance (h : s.Inv) (t : Nat) : (s.advance t).Inv := by
  have hwatchdog : State.Inv { s with ctl := s.ctl.watchdog t } :=
    h.setCtl (Controller.watchdog_watchdogOk h.watchdog t) (by simpa using h.zeroCross) (by simpa using h.periodic)
  exact (hwatchdog.advanceZeroCross t).advanceIrq t

theorem State.Inv.carrySound (h : s.Inv) (t : Nat) : (s.carrySound t).Inv := by
  obtain ⟨-, -, -, -, hden⟩ := h.periods_pos
  exact { h with carry := Nat.mod_lt _ hden }

theorem State.Inv.endSound (h : s.Inv) (ts : Nat) : (s.endSound ts).Inv := by
  obtain ⟨-, -, -, hhack, -⟩ := h.periods_pos
  exact iterate_inv (fun _ h => h.firq .sound) _ { h with firqHack := Nat.mod_lt _ hhack }

/-! ### Resets -/

theorem State.Inv.resetCore (h : s.Inv) (b : Board) : (s.resetCore b).Inv :=
  (h.setBank (h.banks_pos b)).setCoreOf (Core.atReset_nmiOk _ _ _)

theorem State.Inv.resetShared (h : s.Inv) : s.resetShared.Inv := by
  obtain ⟨-, -, -, -, hden⟩ := h.periods_pos
  exact { h with carry := hden }

theorem State.Inv.resetBoard (h : s.Inv) (b : Board) : (s.resetBoard b).Inv := by
  obtain ⟨-, hzero, hirq, hhack, -⟩ := h.periods_pos
  have hreset := (h.resetCore b).resetShared
  cases b with
  | main => exact { hreset with watchdog := Controller.atReset_watchdogOk s.cfg, zeroCross := hzero, periodic := hirq }
  | sound => exact { hreset with firqHack := hhack }

theorem State.Inv.resetAll (h : s.Inv) : s.resetAll.Inv := (h.resetBoard .main).resetBoard .sound

/-! ### Places in the host's call -/

theorem State.Inv.withLock (h : s.Inv) (l : Lock) : (s.withLock l).Inv := h.congr

theorem State.Inv.finish (h : s.Inv) (b : Board) (r : Option Nat) : (s.finish b r).Inv := h.congr

theorem State.Inv.nextSlice (h : s.Inv) (call : ExecCall) : (s.nextSlice call).Inv := by
  unfold State.nextSlice
  split
  · exact h.withLock _
  · exact h.finish _ _

theorem State.Inv.nextOfSteps (h : s.Inv) (b : Board) (n done : Nat) : (s.nextOfSteps b n done).Inv := by
  unfold State.nextOfSteps
  split
  · exact h.withLock _
  · exact h.finish _ _

end

/-! ### Every agent -/

/-- The next state, if the outcome is one, meets the invariant. -/
def NextInv (o : Out) : Prop := ∀ t, o = .next t → t.Inv

theorem nextInv_next {s : State} (h : s.Inv) : NextInv (.next s) := by
  intro t ht
  cases ht
  exact h

theorem nextInv_fault (r : Fault) : NextInv (.fault r) := by
  intro t ht
  cases ht

theorem nextInv_refused (r : Refusal) : NextInv (.refused r) := by
  intro t ht
  cases ht

/-- A call accepted under a condition. -/
theorem nextInv_accepted {p : Prop} [Decidable p] {s : State} (r : Refusal) (h : p → s.Inv) :
    NextInv (if p then .next s else .refused r) := by
  split
  · exact nextInv_next (h ‹p›)
  · exact nextInv_refused r

section
variable {s : State}

theorem State.Inv.coreStep (h : s.Inv) : NextInv (coreStep s) := fun _ => coreStep_inv h

theorem State.Inv.stepInCall (h : s.Inv) (b : Board) {go : Nat → State → State}
    (hgo : ∀ n t, t.Inv → (go n t).Inv) : NextInv (stepInCall b go s) := by
  unfold Machine.stepInCall
  split
  · rename_i hstep
    have hnext := coreStep_inv h hstep
    apply nextInv_next
    split
    · exact hnext.finish b none
    · exact hgo _ _ hnext
  · exact nextInv_fault _
  · exact nextInv_refused _

theorem State.Inv.mainSliceStep (h : s.Inv) (call : ExecCall) (want ran : Nat) :
    NextInv (mainSliceStep call want ran s) := by
  refine h.stepInCall .main fun _ _ ht => ?_
  split <;> exact ht.withLock _

theorem State.Inv.soundSliceStep (h : s.Inv) (call : ExecCall) (budget ran : Nat) :
    NextInv (soundSliceStep call budget ran s) := by
  refine h.stepInCall .sound fun _ _ ht => ?_
  split <;> exact ht.withLock _

theorem State.Inv.controlStep (h : s.Inv) (call : ExecCall) (t : Nat) : NextInv (controlStep call t s) := by
  have hticks : State.Inv { s with boardTicks := s.boardTicks + t } := h.congr
  have hcarry := (hticks.advance t).carrySound t
  refine nextInv_accepted _ fun _ => ?_
  split
  · exact hcarry.withLock _
  · exact hcarry.nextSlice _

theorem State.Inv.soundEndStep (h : s.Inv) (call : ExecCall) (ts : Nat) : NextInv (soundEndStep call ts s) :=
  nextInv_accepted _ fun _ => (h.endSound ts).nextSlice call

/-- A bus access of the host ends in a next state, fatal or not. -/
theorem nextInv_hostBus {α : Type} {m : Op α} (h : (after (m s)).Inv) : NextInv (hostBus m s) := by
  unfold hostBus
  cases hm : m s <;> rw [hm] at h <;> exact nextInv_next h

theorem State.Inv.stepCall (h : s.Inv) (b : Board) : NextInv (stepCall b s) := by
  unfold Machine.stepCall
  split
  · rename_i hstep
    exact nextInv_next (coreStep_inv (h.withLock _) hstep).congr
  · exact nextInv_fault _
  · exact nextInv_refused _

theorem State.Inv.hostCall (h : s.Inv) (k : HostCall) : NextInv (hostCall k s) := by
  cases k with
  | irq b => exact nextInv_next (h.irq b)
  | firq b => exact nextInv_next (h.firq b)
  | nmi b => exact nextInv_accepted _ fun hnmi => h.setCoreOf fun hno => absurd (hnmi.symm.trans hno) nofun
  | clearIrqMasking b =>
    exact nextInv_next (h.setCoreOf ((Core.sameButLines_clearIrqMasking _).nmiOk (h.coreOf_nmiOk b)))
  | step b => exact h.stepCall b
  | steps b n => exact nextInv_next (h.nextOfSteps b n 0)
  | executeCycles total perStep =>
    simp only [Machine.hostCall]
    split
    · exact nextInv_refused _
    · exact nextInv_next (h.nextSlice _)
  | advance t => exact nextInv_accepted _ fun _ => h.advance t
  | reset => exact nextInv_next h.resetAll
  | resetBoard b => exact nextInv_next (h.resetBoard b)
  | busRead b a => exact nextInv_hostBus (h.busRead b a)
  | busWrite b a v => exact nextInv_hostBus (h.busWrite b a v)
  | setDirectInput row v => exact nextInv_next h.congr
  | setCabinetInput bitmask => exact nextInv_next h.congr

theorem State.Inv.idleMachineStep (h : s.Inv) : NextInv (idleMachineStep s) := by
  unfold Machine.idleMachineStep
  split
  · exact State.Inv.hostCall h.congr _
  · exact h.coreStep

theorem State.Inv.runningStep (h : s.Inv) : NextInv (runningStep s) := by
  unfold Machine.runningStep
  split
  · exact h.idleMachineStep
  · exact h.stepInCall _ fun _ _ ht => ht.nextOfSteps _ _ _
  · exact h.mainSliceStep _ _ _
  · exact h.controlStep _ _
  · exact h.soundSliceStep _ _ _
  · exact h.soundEndStep _ _

theorem State.Inv.haltedStep (h : s.Inv) : NextInv (haltedStep s) := by
  unfold Machine.haltedStep
  split
  · exact nextInv_next (State.Inv.resetAll h.congr)
  · exact nextInv_next (State.Inv.resetBoard h.congr _)
  · exact nextInv_fault _

theorem State.Inv.step (h : s.Inv) : NextInv (step s) := by
  unfold Machine.step
  split
  · exact h.haltedStep
  · exact h.runningStep

end

/-! ### A halted machine -/

section
variable {s : State}

theorem step_of_fatal (h : s.fatal ≠ none) : step s = haltedStep s := by
  unfold step
  split
  · rfl
  · contradiction

theorem haltedStep_reset {ks : List HostCall} (h : s.host = .reset :: ks) :
    haltedStep s = .next (State.resetAll { s with host := ks, lock := .idle s.active }) := by
  simp only [haltedStep, h]

theorem haltedStep_resetBoard {b : Board} {ks : List HostCall} (h : s.host = .resetBoard b :: ks) :
    haltedStep s = .next (State.resetBoard { s with host := ks, lock := .idle s.active } b) := by
  simp only [haltedStep, h]

theorem haltedStep_halted (hreset : ∀ ks, s.host ≠ .reset :: ks) (hboard : ∀ b ks, s.host ≠ .resetBoard b :: ks) :
    haltedStep s = .fault .halted := by
  unfold haltedStep
  split
  · exact absurd ‹_› (hreset _)
  · exact absurd ‹_› (hboard _ _)
  · rfl

/-- A board's reset clears the fatal condition (70_reset_and_hazards.md R484). -/
@[simp] theorem State.resetBoard_fatal (s : State) (b : Board) : (s.resetBoard b).fatal = none := by cases b <;> rfl

@[simp] theorem State.resetBoard_host (s : State) (b : Board) : (s.resetBoard b).host = s.host := by cases b <;> rfl

end

end Sys2Proof.Machine

namespace Sys2Proof

open Machine

/-- Settles O60: whichever agent moves, it changes the state by updates that each keep the invariant. -/
theorem stepKeepsInv : Obligations.StepKeepsInv := fun _ t h hstep => h.step t hstep

/-- Settles O54: a halted machine takes a queued reset, which clears the condition, and nothing else. -/
theorem haltedMachine : Obligations.HaltedMachine := by
  intro s hfatal
  rw [step_of_fatal hfatal]
  refine ⟨haltedStep_halted, fun ks hhost => ⟨_, haltedStep_reset hhost, ?_, ?_⟩,
    fun b ks hhost => ⟨_, haltedStep_resetBoard hhost, ?_, ?_⟩⟩
  · exact State.resetBoard_fatal _ .sound
  · simp [State.resetAll]
  · exact State.resetBoard_fatal _ b
  · simp

end Sys2Proof
end

section
/-! One byte on the bus: where each address leads, and what a read and a write do in each region and at each kind of
register. -/

namespace Sys2Proof.Machine

set_option Elab.async false

/-! ### The regions -/

/-- What an accepted map says of the regions and of the bank-select register. -/
theorem regions_of_boardOk {c : BoardCfg} (h : boardOk c = true) :
    c.ramEnd ≤ c.hwEnd ∧ c.hwEnd < c.bankEnd ∧ c.bankEnd ≤ 0xFFF0 ∧ c.ramEnd ≤ c.bankSelect ∧ c.bankSelect < c.hwEnd := by
  simp only [boardOk, mapOk, Bool.and_eq_true, decide_eq_true_eq] at h
  obtain ⟨⟨⟨⟨⟨⟨⟨⟨hhw, hbank⟩, hrom⟩, _⟩, _⟩, _⟩, hselect⟩, hselect'⟩, _⟩ := h
  exact ⟨hhw, hbank, hrom, hselect, hselect'⟩

section
variable {c : BoardCfg} {a : Nat}

theorem decodeAddr_bankWindow (hlt : a < 0x10000) (hram : c.ramEnd ≤ a) (hhw : c.hwEnd ≤ a) (hbank : a < c.bankEnd) :
    decodeAddr c a = some ⟨.bankswitched, a - c.hwEnd⟩ := by
  rw [decodeAddr, if_pos hlt, if_neg (by omega), if_neg (by omega), if_pos hbank]

theorem decodeAddr_fixedRom (hlt : a < 0x10000) (hram : c.ramEnd ≤ a) (hhw : c.hwEnd ≤ a) (hbank : c.bankEnd ≤ a) :
    decodeAddr c a = some ⟨.rom, a - c.bankEnd⟩ := by
  rw [decodeAddr, if_pos hlt, if_neg (by omega), if_neg (by omega), if_neg (by omega)]

theorem decodeAddr_noAddress (h : 0x10000 ≤ a) : decodeAddr c a = none := by
  rw [decodeAddr, if_neg (by omega)]

end

/-! ### One byte, region by region -/

section
variable {s : State} {a : Word}

/-- An address of RAM, of fixed ROM or of the banked window is read without side effects (20_memory.md R62). -/
theorem memRead8_of_decode {k : Subsystem} {off : Nat} (hd : decodeAddr s.myCfg a.toNat = some ⟨k, off⟩)
    (hk : k ≠ .hardware) : memRead8 a s = .ok (s.at a) s := by
  unfold memRead8 busRead
  rw [show s.cfg.board s.active = s.myCfg from rfl, hd]
  cases k
  case hardware => exact absurd rfl hk
  all_goals rfl

/-- A write of ROM, fixed or banked, changes nothing (R82). -/
theorem memWrite8_of_rom {k : Subsystem} {off : Nat} (hd : decodeAddr s.myCfg a.toNat = some ⟨k, off⟩)
    (hram : k ≠ .ram) (hhw : k ≠ .hardware) (v : Byte) : memWrite8 a v s = .ok () s := by
  unfold memWrite8 busWrite
  rw [show s.cfg.board s.active = s.myCfg from rfl, hd]
  cases k
  case ram => exact absurd rfl hram
  case hardware => exact absurd rfl hhw
  all_goals rfl

theorem State.at_of_decode_ram (hd : decodeAddr s.myCfg a.toNat = some ⟨.ram, a.toNat⟩) :
    s.at a = (s.bd s.active).ram.read a.toNat := by
  unfold State.at State.peek
  rw [show s.cfg.board s.active = s.myCfg from rfl, hd]

theorem State.at_of_decode_banked {off : Nat} (hd : decodeAddr s.myCfg a.toNat = some ⟨.bankswitched, off⟩) :
    s.at a = s.myCfg.bankedRom.read ((s.bd s.active).bank * s.myCfg.window + off) := by
  unfold State.at State.peek
  rw [show s.cfg.board s.active = s.myCfg from rfl, hd]
  rfl

theorem State.at_of_decode_rom {off : Nat} (hd : decodeAddr s.myCfg a.toNat = some ⟨.rom, off⟩) :
    s.at a = s.myCfg.fixedRom.read off := by
  unfold State.at State.peek
  rw [show s.cfg.board s.active = s.myCfg from rfl, hd]

theorem memRead8_ram (h : a.toNat < s.myCfg.ramEnd) : memRead8 a s = .ok ((s.bd s.active).ram.read a.toNat) s := by
  have hd := decodeAddr_ram.mpr ⟨a.isLt, h, rfl⟩
  rw [memRead8_of_decode hd nofun, State.at_of_decode_ram hd]

/-- RAM stands outside the hardware window, so no byte is rejected there. -/
theorem BoardCfg.rejects_ram {c : BoardCfg} (h : a.toNat < c.ramEnd) (v : Byte) : c.rejects a v = false := by
  have hwindow : inWindow c a.toNat = false := by
    simp only [inWindow, Bool.and_eq_false_iff, decide_eq_false_iff_not]
    exact .inl (by omega)
  simp only [BoardCfg.rejects, hwindow, Bool.false_and]

theorem memWrite8_ram (h : a.toNat < s.myCfg.ramEnd) (v : Byte) :
    memWrite8 a v s = .ok () (s.setRam s.active a.toNat v) := by
  rw [memWrite8_ok (BoardCfg.rejects_ram h v), State.stored_ram h]

end

/-! ### Registers of the hardware window -/

section
variable {s : State} {b : Board} {off : Nat}

theorem State.hwRead_bankSelect (h : off = (s.cfg.board b).bankSelect) :
    s.hwRead b off = ((s.bd b).hwShadow.read off, s) := by
  rw [State.hwRead, if_pos h]

/-- A read that no block owns goes to the device port (20_memory.md R86). -/
theorem State.hwRead_unowned (hselect : off ≠ (s.cfg.board b).bankSelect)
    (hzero : b = .main → off ≠ s.cfg.zeroCrossAddr) (hlatch : b = .sound → off ≠ s.cfg.latchReadAddr) :
    s.hwRead b off = s.portRead b off := by
  rw [State.hwRead, if_neg hselect, if_neg fun h => hzero h.1 h.2, if_neg fun h => hlatch h.1 h.2]

theorem State.portRead_unwired (h : s.wired b off = false) :
    s.portRead b off = ((s.bd b).hwShadow.read off, s.report b off .read) := by
  rw [State.portRead, if_neg (by rw [h]; exact Bool.false_ne_true)]

theorem State.portWrite_unwired (h : s.wired b off = false) (v : Byte) :
    s.portWrite b off v = s.report b off .write := by
  rw [State.portWrite, if_neg (by rw [h]; exact Bool.false_ne_true)]

/-- A write of the bank-select register is recorded and selects a bank (R80, R81). -/
theorem hwWrite_bankSelect (h : off = (s.cfg.board b).bankSelect) (v : Byte) :
    hwWrite b off v s = selectBank b v (s.setShadow b off v) := by
  unfold hwWrite
  exact if_pos (by simpa only [State.setShadow_cfg] using h)

/-- A write that no block owns is recorded and goes to the device port (R85, R86). -/
theorem hwWrite_unowned (hselect : off ≠ (s.cfg.board b).bankSelect)
    (hmain : b = .main → off ≠ s.cfg.watchdogAddr ∧ off ≠ s.cfg.soundDataAddr) (v : Byte) :
    hwWrite b off v s = .ok () ((s.setShadow b off v).portWrite b off v) := by
  unfold hwWrite
  simp only [State.setShadow_cfg]
  rw [if_neg hselect, if_neg fun h => (hmain h.1).1 h.2, if_neg fun h => (hmain h.1).2 h.2]

theorem selectBank_accepted {v : Byte} {i : Nat} (h : acceptedBank (s.cfg.board b) v = some i) :
    selectBank b v s = .ok () (s.setBank b i) := by
  rw [selectBank, h]

theorem selectBank_rejected {v : Byte} (h : acceptedBank (s.cfg.board b) v = none) :
    selectBank b v s = .error () { s with fatal := some (.bankError b v) } := by
  rw [selectBank, h, raise_apply]

end

theorem acceptedBank_of_lt {c : BoardCfg} {v : Byte} {i : Nat} (h : bankOf c v = some i) (hi : i < c.banks) :
    acceptedBank c v = some i := by
  simp only [acceptedBank, h, if_pos hi]

/-- A byte that names no bank, and one that names a bank beyond the ROM. -/
theorem acceptedBank_eq_none {c : BoardCfg} {v : Byte} (h : ∀ i, bankOf c v = some i → ¬ i < c.banks) :
    acceptedBank c v = none := by
  unfold acceptedBank
  split
  · exact if_neg (h _ ‹_›)
  · rfl

/-! ### Two bytes -/

theorem readsByte_exists (a : Word) (s : State) : ∃ v t, ReadsByte a s v t := by
  obtain ⟨v, t, hread, heffect⟩ := memRead8_ok a s
  refine ⟨v, t, hread, heffect, fun hplain => ?_⟩
  rw [memRead8_plain hplain] at hread
  cases hread
  exact ⟨rfl, rfl⟩

theorem memWrite16_accepted {s : State} {a v : Word} (h : s.myCfg.rejects a (hiByte v) = false) :
    memWrite16 a v s = memWrite8 (a + 1#16) (loByte v) (s.stored a (hiByte v)) := by
  rw [memWrite16, op_bind_ok (memWrite8_ok h)]

/-- The second byte is not written when the first one ends in `BankError` (60_exceptions.md R403). -/
theorem memWrite16_rejected {s : State} {a v : Word} (h : s.myCfg.rejects a (hiByte v) = true) :
    memWrite16 a v s = .error () (s.bankFault a (hiByte v)) := by
  rw [memWrite16, op_bind_error (memWrite8_rejected h), State.bankFault]

end Sys2Proof.Machine

namespace Sys2Proof

open Machine

set_option Elab.async false

/-- Settles O9, region by region. -/
theorem decodeRegions : Obligations.DecodeRegions := by
  intro c b a hok
  obtain ⟨hhw, hbank, hrom, -, -⟩ := regions_of_boardOk hok
  refine ⟨fun h => ?_, fun h h' => ?_, fun h h' => ?_, fun h h' => ?_, decodeAddr_noAddress⟩
  · exact decodeAddr_ram.mpr ⟨by omega, h, rfl⟩
  · exact decodeAddr_hwWindow (by omega) h h'
  · exact decodeAddr_bankWindow (by omega) (by omega) h h'
  · exact decodeAddr_fixedRom h' (by omega) (by omega) h

/-- Settles O10, region by region. -/
theorem busAccess : Obligations.BusAccess := by
  intro s a v hok
  obtain ⟨hhw, hbank, -, -, -⟩ := regions_of_boardOk hok
  refine ⟨fun h => ⟨memRead8_ram h, memWrite8_ram h v⟩, fun h h' => ⟨memRead8_hw h h', memWrite8_hw v h h'⟩,
    fun h h' => ?_, fun h => ?_⟩
  · have hd := decodeAddr_bankWindow a.isLt (Nat.le_trans hhw h) h h'
    exact ⟨by rw [memRead8_of_decode hd nofun, State.at_of_decode_banked hd], memWrite8_of_rom hd nofun nofun v⟩
  · have hd := decodeAddr_fixedRom a.isLt (c := s.myCfg) (by omega) (by omega) h
    exact ⟨by rw [memRead8_of_decode hd nofun, State.at_of_decode_rom hd], memWrite8_of_rom hd nofun nofun v⟩

/-- Settles O11: in RAM a write replaces one byte of a canonical store. -/
theorem ramReadsBack : Obligations.RamReadsBack := by
  intro s a v hwf hram
  constructor
  · rw [memRead8_ram (by rwa [State.stored_myCfg]), State.stored_active, State.stored_ram hram, State.setRam_bd_ram,
      Memory.read_write_same hwf]
  · intro b x hne
    rw [State.stored_ram hram]
    exact State.peek_setRam_other _ _ _ _ _ _ fun hb => hne.resolve_left (not_not_intro hb)

/-- Settles O12: the first byte's access ends before the second begins. -/
theorem sixteenBitAccess : Obligations.SixteenBitAccess := by
  intro s a v
  refine ⟨?_, memWrite16_accepted, memWrite16_rejected⟩
  obtain ⟨hi, s₁, hhi⟩ := readsByte_exists a s
  obtain ⟨lo, s₂, hlo⟩ := readsByte_exists (a + 1#16) s₁
  refine ⟨hi, s₁, lo, s₂, hhi, hlo, ?_⟩
  rw [memRead16, op_bind_ok hhi.1, op_bind_ok hlo.1, op_pure]

/-- Settles O14: the bank-select register comes first at its address. -/
theorem bankSelect : Obligations.BankSelect := by
  intro s a v hok haddr _ _
  obtain ⟨-, -, -, hlow, hhigh⟩ := regions_of_boardOk hok
  rw [← haddr] at hlow hhigh
  rw [memRead8_hw hlow hhigh, memWrite8_hw v hlow hhigh, State.hwRead_bankSelect haddr, hwWrite_bankSelect haddr]
  refine ⟨fun i hi hlt => ?_, fun hnone => ?_, rfl⟩
  · exact selectBank_accepted (by rw [State.setShadow_cfg]; exact acceptedBank_of_lt hi hlt)
  · exact selectBank_rejected (by rw [State.setShadow_cfg]; exact acceptedBank_eq_none hnone)

/-- Settles O17: past the owners stands the device port, and no device is wired there. -/
theorem unownedRegister : Obligations.UnownedRegister := by
  intro s a v _ hlow hhigh hselect hwired
  rw [memRead8_hw hlow hhigh, memWrite8_hw v hlow hhigh]
  refine ⟨fun hmain => ?_, fun hzero hlatch => ?_⟩
  · have hwired' : (s.setShadow s.active a.toNat v).wired s.active a.toNat = false := by
      rwa [State.wired, State.setShadow_cfg]
    rw [hwWrite_unowned hselect hmain, State.portWrite_unwired hwired', State.report, State.setShadow_diag]
  · rw [State.hwRead_unowned hselect hzero hlatch, State.portRead_unwired hwired, State.report]

end Sys2Proof
end

section
/-! The frame of a write, of a push and of an instruction that stores nothing. -/

namespace Sys2Proof.Machine

set_option Elab.async false

/-! ### One byte written -/

theorem State.stored_hw {s : State} {a : Word} (hlow : s.myCfg.ramEnd ≤ a.toNat) (hhigh : a.toNat < s.myCfg.hwEnd)
    (v : Byte) : s.stored a v = after (hwWrite s.active a.toNat v s) := by
  rw [State.stored, memWrite8_hw v hlow hhigh]
  cases hwWrite s.active a.toNat v s <;> rfl

theorem State.stored_outside {s : State} {a : Word} (hram : s.myCfg.ramEnd ≤ a.toNat) (hhw : s.myCfg.hwEnd ≤ a.toNat)
    (v : Byte) : s.stored a v = s := by
  by_cases hbank : a.toNat < s.myCfg.bankEnd
  · rw [State.stored, memWrite8_of_rom (decodeAddr_bankWindow a.isLt hram hhw hbank) nofun nofun]
  · rw [State.stored, memWrite8_of_rom (decodeAddr_fixedRom a.isLt hram hhw (Nat.le_of_not_lt hbank)) nofun nofun]

/-- A register write leaves every byte but its own, and the banked window when it selects a bank (20_memory.md R81, R85). -/
theorem keepsBut_stored_hw {s : State} {a : Word} (hlow : s.myCfg.ramEnd ≤ a.toNat) (hhigh : a.toNat < s.myCfg.hwEnd)
    (v : Byte) : s.KeepsBut (s.stored a v) [a] := by
  intro b x hkeeps
  simp only [List.mem_singleton, forall_eq] at hkeeps
  have hshadow : (s.setShadow s.active a.toNat v).peek b x = s.peek b x :=
    s.peek_setShadow_other _ _ _ _ _ fun hb => (hkeeps hb).1
  rcases hwWrite_mems s a.toNat v with hsame | ⟨hselect, i, hbank⟩
  · rw [← State.stored_hw hlow hhigh] at hsame
    rw [hsame.peek (by rw [State.stored_cfg, State.setShadow_cfg]), hshadow]
  · rw [State.stored_hw hlow hhigh, hbank, ← hshadow]
    refine State.peek_setBank_other _ _ _ _ _ fun hb => ?_
    obtain ⟨-, hbanked⟩ := hkeeps hb
    rw [State.setShadow_cfg, hb]
    exact Bool.eq_false_iff.mpr fun hin => hbanked hin hselect

/-- A byte write leaves every byte but its own, and the banked window when it selects a bank (R63, R77 to R82). -/
theorem keepsBut_stored (s : State) (a : Word) (v : Byte) : s.KeepsBut (s.stored a v) [a] := by
  by_cases hram : a.toNat < s.myCfg.ramEnd
  · rw [State.stored_ram hram]
    exact fun b x hkeeps => s.peek_setRam_other _ _ _ _ _ fun hb => (hkeeps hb).1 a (List.mem_singleton_self a)
  · by_cases hhw : a.toNat < s.myCfg.hwEnd
    · exact keepsBut_stored_hw (Nat.le_of_not_lt hram) hhw v
    · rw [State.stored_outside (Nat.le_of_not_lt hram) (Nat.le_of_not_lt hhw)]
      exact .of_peek (fun _ _ => rfl) _

theorem State.stored_bankFault {s : State} {a : Word} {v : Byte} (h : s.myCfg.rejects a v = true) :
    s.stored a v = s.bankFault a v := by
  rw [State.stored, memWrite8_rejected h, State.bankFault]

/-! ### Bytes pushed -/

theorem State.pushed_cons_eq (s : State) (p : StackPtr) (v : Byte) (vs : List Byte) :
    s.pushed p (v :: vs) = (s.pushed p [v]).pushed p vs := rfl

theorem State.pushed_singleton_sp (s : State) (p : StackPtr) (v : Byte) :
    (s.pushed p [v]).core.sp p = s.core.sp p - 1#16 := s.pushed_sp p [v]

theorem keepsBut_pushed_singleton (s : State) (p : StackPtr) (v : Byte) :
    s.KeepsBut (s.pushed p [v]) [s.core.sp p - 1#16] := by
  have hmoved : s.KeepsBut (s.modCore fun c => c.setSp p (c.sp p - 1#16)) [] := .of_peek (State.modCore_peek s _) _
  exact hmoved.trans (keepsBut_stored _ _ v) (s.modCore_cfg _) (s.modCore_active _)

/-- A push leaves every byte outside the addresses it pushes to (20_memory.md R67). -/
theorem keepsBut_pushed (s : State) (p : StackPtr) (vs : List Byte) :
    s.KeepsBut (s.pushed p vs) (pushAddrs (s.core.sp p) vs.length) := by
  induction vs generalizing s with
  | nil => exact .of_peek (fun _ _ => rfl) _
  | cons v vs ih =>
    have hrest := ih (s.pushed p [v])
    rw [State.pushed_singleton_sp] at hrest
    exact (keepsBut_pushed_singleton s p v).trans hrest (s.pushed_cfg p [v]) (s.pushed_active p [v])

/-- The addresses pushed to stand 1 to `n` below the stack pointer. -/
theorem exists_of_mem_pushAddrs {sp a : Word} {n : Nat} (h : a ∈ pushAddrs sp n) :
    ∃ k, k < n ∧ a = sp - BitVec.ofNat 16 (k + 1) := by
  induction n generalizing sp with
  | zero => cases h
  | succ n ih =>
    rcases List.mem_cons.mp h with rfl | h
    · exact ⟨0, n.succ_pos, rfl⟩
    · obtain ⟨k, hk, rfl⟩ := ih h
      exact ⟨k + 1, by omega, by bv_omega⟩

/-- Fewer than 0x10000 pushes do not come back to the address they started at. -/
theorem not_mem_pushAddrs {sp : Word} {n : Nat} (h : n < 0x10000) : sp ∉ pushAddrs sp n := by
  intro hmem
  obtain ⟨k, hk, heq⟩ := exists_of_mem_pushAddrs hmem
  bv_omega

/-- A byte pushed into RAM replaces the byte below the stack pointer. -/
theorem State.pushed_singleton_ram {s : State} {p : StackPtr} (hram : (s.core.sp p - 1#16).toNat < s.myCfg.ramEnd)
    (v : Byte) : s.pushed p [v] =
      (s.modCore fun c => c.setSp p (c.sp p - 1#16)).setRam s.active (s.core.sp p - 1#16).toNat v := by
  rw [State.pushed_cons, State.pushed_nil, State.stored_ram (by rwa [State.modCore_myCfg]), State.modCore_active]

/-- The RAM of the pushing board after one push. -/
theorem State.pushed_singleton_bd_ram {s : State} {p : StackPtr}
    (hram : (s.core.sp p - 1#16).toNat < s.myCfg.ramEnd) (v : Byte) :
    ((s.pushed p [v]).bd s.active).ram = (s.bd s.active).ram.write (s.core.sp p - 1#16).toNat v := by
  rw [State.pushed_singleton_ram hram, State.setRam_bd_ram, State.modCore_bd_ram]

theorem State.at_ram {s : State} {a : Word} (h : a.toNat < s.myCfg.ramEnd) :
    s.at a = (s.bd s.active).ram.read a.toNat :=
  State.at_of_decode_ram (decodeAddr_ram.mpr ⟨a.isLt, h, rfl⟩)

theorem BoardCfg.banked_ram {c : BoardCfg} {a : Nat} (h : a < c.ramEnd) : c.banked a = false := by
  rw [BoardCfg.banked, decide_eq_false (by omega), Bool.false_and, Bool.false_and]

/-- Pushes elsewhere leave a RAM byte of the pushing board. -/
theorem pushed_at_other {s : State} {p : StackPtr} {vs : List Byte} {a : Word} (hram : a.toNat < s.myCfg.ramEnd)
    (ha : a ∉ pushAddrs (s.core.sp p) vs.length) : (s.pushed p vs).at a = s.at a := by
  rw [State.at, State.pushed_active]
  refine keepsBut_pushed s p vs s.active a.toNat fun _ => ⟨fun a' ha' heq => ha ?_, fun hbanked => ?_⟩
  · rwa [BitVec.eq_of_toNat_eq heq]
  · rw [BoardCfg.banked_ram hram] at hbanked
    cases hbanked

/-- In RAM the bytes pushed stand at the addresses pushed to, each one below the one before (R67, R77). -/
theorem pushed_ram_readsBack {s : State} {p : StackPtr} {vs : List Byte} (hwf : (s.bd s.active).ram.wf = true)
    (hlen : vs.length ≤ 0x10000) (hram : ∀ a ∈ pushAddrs (s.core.sp p) vs.length, a.toNat < s.myCfg.ramEnd) :
    (pushAddrs (s.core.sp p) vs.length).map (s.pushed p vs).at = vs := by
  induction vs generalizing s with
  | nil => rfl
  | cons v vs ih =>
    have hlen' : vs.length < 0x10000 := hlen
    simp only [List.length_cons, pushAddrs, List.mem_cons, forall_eq_or_imp] at hram
    obtain ⟨hhead, htail⟩ := hram
    have hrest := @ih (s.pushed p [v])
    rw [State.pushed_singleton_sp, State.pushed_myCfg, State.pushed_active, State.pushed_singleton_bd_ram hhead] at hrest
    have hbyte : (s.pushed p [v]).at (s.core.sp p - 1#16) = v := by
      rw [State.at_ram (by rwa [State.pushed_myCfg]), State.pushed_active, State.pushed_singleton_bd_ram hhead,
        Memory.read_write_same hwf]
    have hkept : ((s.pushed p [v]).pushed p vs).at (s.core.sp p - 1#16) = (s.pushed p [v]).at (s.core.sp p - 1#16) :=
      pushed_at_other (by rwa [State.pushed_myCfg]) (by rw [State.pushed_singleton_sp]; exact not_mem_pushAddrs hlen')
    rw [State.pushed_cons_eq, List.length_cons, pushAddrs, List.map_cons, hkept, hbyte,
      hrest (Memory.wf_write hwf _ v) (Nat.le_of_lt hlen') htail]

/-! ### Nothing stored -/

/-- Every part of a step but a write leaves every byte as it was (R62, R71). -/
theorem stepRel_sameMemory : StepRel false State.SameMemory where
  refl _ _ _ := rfl
  trans hst htu b x := (htu b x).trans (hst b x)
  core s f _ := s.modCore_peek f
  read s a ha b x := by
    obtain ⟨v, t, hread, heffect⟩ := busRead_ok s.active ha s
    rw [hread]
    exact heffect.peek b x
  write := nofun
  fatal _ _ _ _ := rfl

end Sys2Proof.Machine

namespace Sys2Proof

open Machine

set_option Elab.async false

/-- Settles O13: the frame of the byte, region by region, and the write's two ends. -/
theorem storedFrame : Obligations.StoredFrame := by
  intro s a v
  refine ⟨keepsBut_stored s a v, s.stored_effect a v, memWrite8_ok, fun h => ⟨?_, State.stored_bankFault h⟩⟩
  rw [memWrite8_rejected h, State.stored_bankFault h, State.bankFault]

/-- Settles O18, by induction on the bytes pushed. -/
theorem pushPull : Obligations.PushPull := by
  intro s p v bytes
  exact ⟨pushes_push16 p v s, s.pushed_core p bytes, keepsBut_pushed s p bytes, pushed_ram_readsBack, pull8_plain,
    pull16_plain⟩

/-- Settles O56: a bus write is the one part of a step that changes a byte, and these instructions make none. -/
theorem noStoreKeepsMemory : Obligations.NoStoreKeepsMemory :=
  fun _ _ _ hstores hexec => rel_exec_noStore stepRel_sameMemory State.tick_peek hstores hexec

end Sys2Proof
end

section
/-! One step of a core and the other board: the step asserts that board's lines and changes nothing else of it. -/

namespace Sys2Proof.Machine

set_option Elab.async false

/-! ### Assertions of lines -/

theorem BoardState.Asserted.refl (b : BoardState) : b.Asserted b := ⟨_, _, _, _, rfl⟩

theorem BoardState.Asserted.trans {b c d : BoardState} (hbc : b.Asserted c) (hcd : c.Asserted d) : b.Asserted d := by
  obtain ⟨_, _, _, _, rfl⟩ := hbc
  obtain ⟨_, _, _, _, rfl⟩ := hcd
  exact ⟨_, _, _, _, rfl⟩

/-- The board in focus stays, and the other one is changed by assertions of its lines at most (20_memory.md R95). -/
def State.OnlyAsserts (s t : State) : Prop :=
  t.active = s.active ∧ ∀ b, b ≠ s.active → (s.bd b).Asserted (t.bd b)

section
variable {s t u : State}

theorem State.OnlyAsserts.trans (hst : s.OnlyAsserts t) (htu : t.OnlyAsserts u) : s.OnlyAsserts u := by
  obtain ⟨hactive, hboard⟩ := hst
  obtain ⟨hactive', hboard'⟩ := htu
  exact ⟨hactive'.trans hactive, fun b hb => (hboard b hb).trans (hboard' b (hactive ▸ hb))⟩

/-- Whatever changes no board at all. -/
theorem State.OnlyAsserts.of_boards (hactive : t.active = s.active := by rfl) (main : t.main = s.main := by rfl)
    (sound : t.sound = s.sound := by rfl) : s.OnlyAsserts t := by
  refine ⟨hactive, fun b _ => ?_⟩
  cases b
  · exact ⟨_, _, _, _, main⟩
  · exact ⟨_, _, _, _, sound⟩

end

/-- Whatever is done to the board in focus: its core, its RAM, its register shadow, its bank. -/
theorem State.onlyAsserts_setBd_active (s : State) (v : BoardState) : s.OnlyAsserts (s.setBd s.active v) :=
  ⟨s.setBd_active _ v, fun _ hb => State.setBd_bd_other s v hb ▸ .refl _⟩

/-- An interrupt asserted on either board (60_exceptions.md R451, R456). -/
theorem State.onlyAsserts_irq (s : State) (b : Board) : s.OnlyAsserts (s.irq b) := by
  refine ⟨s.setCoreOf_active b _, fun b' _ => ?_⟩
  cases b <;> cases b' <;> exact ⟨_, _, _, _, rfl⟩

theorem State.onlyAsserts_firq (s : State) (b : Board) : s.OnlyAsserts (s.firq b) := by
  refine ⟨s.setCoreOf_active b _, fun b' _ => ?_⟩
  cases b <;> cases b' <;> exact ⟨_, _, _, _, rfl⟩

theorem State.onlyAsserts_devEffects (s : State) (es : List DevEffect) : s.OnlyAsserts (s.devEffects es) := by
  induction es generalizing s with
  | nil => exact .of_boards
  | cons e es ih =>
    refine State.OnlyAsserts.trans ?_ (ih (s.devEffect e))
    cases e with
    | irq b => exact s.onlyAsserts_irq b
    | firq b => exact s.onlyAsserts_firq b
    | periodicIrqEnable on => exact .of_boards

theorem State.onlyAsserts_devCall (s : State) (e : DevEvent) : s.OnlyAsserts (s.devCall e) :=
  State.OnlyAsserts.trans (t := s.record e) .of_boards (State.onlyAsserts_devEffects _ _)

theorem State.onlyAsserts_report (s : State) (b : Board) (off : Nat) (k : AccessKind) :
    s.OnlyAsserts (s.report b off k) := .of_boards

/-! ### Bus accesses -/

theorem State.onlyAsserts_portRead (s : State) (b : Board) (off : Nat) : s.OnlyAsserts (s.portRead b off).2 := by
  unfold State.portRead
  split
  · dsimp only
    split
    · exact s.onlyAsserts_devCall _
    · exact (s.onlyAsserts_devCall _).trans (State.onlyAsserts_report _ _ _ _)
  · exact s.onlyAsserts_report _ _ _

theorem State.onlyAsserts_portWrite (s : State) (b : Board) (off : Nat) (v : Byte) :
    s.OnlyAsserts (s.portWrite b off v) := by
  unfold State.portWrite
  split
  · split
    · exact s.onlyAsserts_devCall _
    · exact (s.onlyAsserts_devCall _).trans (State.onlyAsserts_report _ _ _ _)
  · exact s.onlyAsserts_report _ _ _

/-- A register read: only the sound core's own read of the latch clears a mask (60_exceptions.md R452). -/
theorem State.onlyAsserts_hwRead (s : State) (off : Nat) : s.OnlyAsserts (s.hwRead s.active off).2 := by
  unfold State.hwRead
  split
  · exact .of_boards
  · split
    · unfold State.readZeroCross
      dsimp only
      split <;> exact .of_boards
    · split
      · rename_i hlatch
        obtain ⟨hsound, -⟩ := hlatch
        have hown := s.onlyAsserts_setBd_active { s.sound with core := s.sound.core.clearIrqMasking }
        rw [hsound] at hown
        exact hown
      · exact s.onlyAsserts_portRead _ _

theorem onlyAsserts_busRead (s : State) (a : Nat) : s.OnlyAsserts (after (busRead s.active a s)) := by
  unfold busRead
  split
  · exact s.onlyAsserts_hwRead _
  · exact .of_boards
  · exact .of_boards

/-- A register write: the latch and the devices assert lines, everything else is the writing board's own. -/
theorem onlyAsserts_hwWrite (s : State) (off : Nat) (v : Byte) :
    s.OnlyAsserts (after (hwWrite s.active off v s)) := by
  unfold hwWrite
  refine State.OnlyAsserts.trans (t := s.setShadow s.active off v) (s.onlyAsserts_setBd_active _) ?_
  dsimp only
  split
  · unfold selectBank
    split
    · have hbank := (s.setShadow s.active off v).onlyAsserts_setBd_active
      rw [State.setShadow_active] at hbank
      exact hbank _
    · exact .of_boards
  · split
    · exact .of_boards
    · split
      · exact State.OnlyAsserts.trans .of_boards (State.onlyAsserts_irq _ .sound)
      · exact State.onlyAsserts_portWrite _ _ _ _

theorem onlyAsserts_busWrite (s : State) (a : Nat) (v : Byte) : s.OnlyAsserts (after (busWrite s.active a v s)) := by
  unfold busWrite
  split
  · exact s.onlyAsserts_setBd_active _
  · exact onlyAsserts_hwWrite s _ v
  · exact .of_boards
  · exact .of_boards

theorem stepRel_onlyAsserts : StepRel true State.OnlyAsserts where
  refl _ := .of_boards
  trans := State.OnlyAsserts.trans
  core s _ _ := s.onlyAsserts_setBd_active _
  read s a _ := onlyAsserts_busRead s a
  write _ s a v := onlyAsserts_busWrite s a v
  fatal _ _ := .of_boards

end Sys2Proof.Machine

namespace Sys2Proof

open Machine

/-- Settles O57: every part of a step changes the stepping board, or asserts lines. -/
theorem otherBoardUntouched : Obligations.OtherBoardUntouched := by
  intro s t b hb hstep
  obtain ⟨-, hboard⟩ := rel_coreStep stepRel_onlyAsserts (fun s _ => s.onlyAsserts_setBd_active _) hstep
  exact hboard b hb

end Sys2Proof
end

section
/-! A core's step with another memory on the other board: each update of the state commutes with that replacement, hence each
bus access and the whole step do. -/

namespace Sys2Proof.Machine

set_option Elab.async false

section
variable (s : State) (b : Board) (ram shadow : Memory) (bank : Nat)

/-! ### What the replacement leaves -/

@[simp] theorem State.withMemoryOf_cfg : (s.withMemoryOf b ram shadow bank).cfg = s.cfg := s.setBd_cfg b _

@[simp] theorem State.withMemoryOf_ctl : (s.withMemoryOf b ram shadow bank).ctl = s.ctl := s.setBd_ctl b _

@[simp] theorem State.withMemoryOf_latchByte : (s.withMemoryOf b ram shadow bank).latchByte = s.latchByte :=
  s.setBd_latchByte b _

@[simp] theorem State.withMemoryOf_latchAvail : (s.withMemoryOf b ram shadow bank).latchAvail = s.latchAvail :=
  s.setBd_latchAvail b _

@[simp] theorem State.withMemoryOf_dev : (s.withMemoryOf b ram shadow bank).dev = s.dev := s.setBd_dev b _

@[simp] theorem State.withMemoryOf_calls : (s.withMemoryOf b ram shadow bank).calls = s.calls := by
  simp only [State.calls, State.withMemoryOf_dev]

@[simp] theorem State.withMemoryOf_active : (s.withMemoryOf b ram shadow bank).active = s.active := s.setBd_active b _

@[simp] theorem State.withMemoryOf_wired (b' : Board) (off : Nat) :
    (s.withMemoryOf b ram shadow bank).wired b' off = s.wired b' off := by
  simp only [State.wired, State.withMemoryOf_cfg]

/-- The cores stay, that of the board included. -/
@[simp] theorem State.withMemoryOf_coreOf (b' : Board) :
    (s.withMemoryOf b ram shadow bank).coreOf b' = s.coreOf b' := by cases b <;> cases b' <;> rfl

@[simp] theorem State.withMemoryOf_core : (s.withMemoryOf b ram shadow bank).core = s.core := by
  simp only [State.core, State.withMemoryOf_active, State.withMemoryOf_coreOf]

theorem State.withMemoryOf_bd_other {b' : Board} (hb : b' ≠ b) :
    (s.withMemoryOf b ram shadow bank).bd b' = s.bd b' := State.setBd_bd_other s _ hb

/-- No byte of the other boards reads differently. -/
theorem State.withMemoryOf_peek_other {b' : Board} (hb : b' ≠ b) (a : Nat) :
    (s.withMemoryOf b ram shadow bank).peek b' a = s.peek b' a := by
  have hbd := s.withMemoryOf_bd_other b ram shadow bank hb
  exact State.peek_congr (s.withMemoryOf_cfg b ram shadow bank) (by rw [hbd]) (by rw [hbd]) (by rw [hbd]) a

/-! ### Updates commute with the replacement -/

theorem State.setBd_withMemoryOf {b' : Board} (hb : b' ≠ b) (v : BoardState) :
    (s.withMemoryOf b ram shadow bank).setBd b' v = (s.setBd b' v).withMemoryOf b ram shadow bank := by
  cases b <;> cases b'
  case main.main => exact absurd rfl hb
  case sound.sound => exact absurd rfl hb
  case main.sound => rfl
  case sound.main => rfl

/-- The cores stand apart from the memories. -/
theorem State.modCoreOf_withMemoryOf (b' : Board) (f : Core → Core) :
    (s.withMemoryOf b ram shadow bank).modCoreOf b' f = (s.modCoreOf b' f).withMemoryOf b ram shadow bank := by
  cases b <;> cases b' <;> rfl

theorem State.modCore_withMemoryOf (f : Core → Core) :
    (s.withMemoryOf b ram shadow bank).modCore f = (s.modCore f).withMemoryOf b ram shadow bank := by
  show (s.withMemoryOf b ram shadow bank).modCoreOf (s.withMemoryOf b ram shadow bank).active f = _
  rw [State.withMemoryOf_active]
  exact s.modCoreOf_withMemoryOf b ram shadow bank s.active f

theorem State.setRam_withMemoryOf {b' : Board} (hb : b' ≠ b) (off : Nat) (v : Byte) :
    (s.withMemoryOf b ram shadow bank).setRam b' off v = (s.setRam b' off v).withMemoryOf b ram shadow bank := by
  rw [State.setRam, State.withMemoryOf_bd_other _ _ _ _ _ hb]
  exact s.setBd_withMemoryOf b ram shadow bank hb _

theorem State.setShadow_withMemoryOf {b' : Board} (hb : b' ≠ b) (off : Nat) (v : Byte) :
    (s.withMemoryOf b ram shadow bank).setShadow b' off v = (s.setShadow b' off v).withMemoryOf b ram shadow bank := by
  rw [State.setShadow, State.withMemoryOf_bd_other _ _ _ _ _ hb]
  exact s.setBd_withMemoryOf b ram shadow bank hb _

theorem State.setBank_withMemoryOf {b' : Board} (hb : b' ≠ b) (i : Nat) :
    (s.withMemoryOf b ram shadow bank).setBank b' i = (s.setBank b' i).withMemoryOf b ram shadow bank := by
  rw [State.setBank, State.withMemoryOf_bd_other _ _ _ _ _ hb]
  exact s.setBd_withMemoryOf b ram shadow bank hb _

theorem State.setFatal_withMemoryOf (f : FatalCond) :
    { s.withMemoryOf b ram shadow bank with fatal := some f } =
      State.withMemoryOf { s with fatal := some f } b ram shadow bank := by
  cases b <;> rfl

theorem State.record_withMemoryOf (e : DevEvent) :
    (s.withMemoryOf b ram shadow bank).record e = (s.record e).withMemoryOf b ram shadow bank := by cases b <;> rfl

theorem State.report_withMemoryOf (b' : Board) (off : Nat) (k : AccessKind) :
    (s.withMemoryOf b ram shadow bank).report b' off k = (s.report b' off k).withMemoryOf b ram shadow bank := by
  cases b <;> rfl

theorem State.devEffect_withMemoryOf (e : DevEffect) :
    (s.withMemoryOf b ram shadow bank).devEffect e = (s.devEffect e).withMemoryOf b ram shadow bank := by
  cases e with
  | irq b' => exact s.modCoreOf_withMemoryOf b ram shadow bank b' Core.irq
  | firq b' => exact s.modCoreOf_withMemoryOf b ram shadow bank b' Core.firq
  | periodicIrqEnable on => cases b <;> rfl

theorem State.devEffects_withMemoryOf (es : List DevEffect) :
    (s.withMemoryOf b ram shadow bank).devEffects es = (s.devEffects es).withMemoryOf b ram shadow bank := by
  induction es generalizing s with
  | nil => rfl
  | cons e es ih => rw [State.devEffects, State.devEffect_withMemoryOf, ih, ← State.devEffects]

theorem State.devCall_withMemoryOf (e : DevEvent) :
    (s.withMemoryOf b ram shadow bank).devCall e = (s.devCall e).withMemoryOf b ram shadow bank := by
  simp only [State.devCall, State.record_withMemoryOf, State.devEffects_withMemoryOf, State.withMemoryOf_calls]

theorem State.writeLatch_withMemoryOf (v : Byte) :
    (s.withMemoryOf b ram shadow bank).writeLatch v = (s.writeLatch v).withMemoryOf b ram shadow bank := by
  cases b <;> rfl

/-! ### Accesses of another board commute with the replacement -/

/-- An access answers the same, and its state has the replacement in it. -/
def AlikeBut {α : Type} : EStateM.Result Unit State α → EStateM.Result Unit State α → Prop :=
  ResultRel fun t t' => t' = t.withMemoryOf b ram shadow bank

theorem State.portRead_withMemoryOf {b' : Board} (hb : b' ≠ b) (off : Nat) :
    (s.withMemoryOf b ram shadow bank).portRead b' off =
      ((s.portRead b' off).1, (s.portRead b' off).2.withMemoryOf b ram shadow bank) := by
  simp only [State.portRead, State.withMemoryOf_wired, State.devCall_withMemoryOf, State.record_withMemoryOf,
    State.withMemoryOf_dev, State.withMemoryOf_latchAvail, State.report_withMemoryOf,
    State.withMemoryOf_bd_other _ _ _ _ _ hb]
  split
  · split <;> rfl
  · rfl

theorem State.portWrite_withMemoryOf (b' : Board) (off : Nat) (v : Byte) :
    (s.withMemoryOf b ram shadow bank).portWrite b' off v =
      (s.portWrite b' off v).withMemoryOf b ram shadow bank := by
  simp only [State.portWrite, State.withMemoryOf_wired, State.devCall_withMemoryOf, State.record_withMemoryOf,
    State.withMemoryOf_calls, State.report_withMemoryOf]
  split
  · split <;> rfl
  · rfl

theorem State.readZeroCross_withMemoryOf :
    (s.withMemoryOf b ram shadow bank).readZeroCross =
      (s.readZeroCross.1, s.readZeroCross.2.withMemoryOf b ram shadow bank) := by
  unfold State.readZeroCross
  rw [State.withMemoryOf_ctl, State.withMemoryOf_cfg]
  cases s.cfg.zeroCrossMode with
  | toggle => rfl
  | setClearOnRead => cases b <;> rfl

theorem State.hwRead_withMemoryOf {b' : Board} (hb : b' ≠ b) (off : Nat) :
    (s.withMemoryOf b ram shadow bank).hwRead b' off =
      ((s.hwRead b' off).1, (s.hwRead b' off).2.withMemoryOf b ram shadow bank) := by
  unfold State.hwRead
  simp only [State.withMemoryOf_cfg]
  split
  · rw [State.withMemoryOf_bd_other _ _ _ _ _ hb]
  · split
    · exact s.readZeroCross_withMemoryOf b ram shadow bank
    · split
      · simp only [State.readLatch, State.modCoreOf_withMemoryOf, State.withMemoryOf_latchByte]
      · exact s.portRead_withMemoryOf b ram shadow bank hb off

theorem alikeBut_busRead {b' : Board} (hb : b' ≠ b) (a : Nat) :
    AlikeBut b ram shadow bank (busRead b' a s) (busRead b' a (s.withMemoryOf b ram shadow bank)) := by
  unfold busRead
  simp only [State.withMemoryOf_cfg, State.hwRead_withMemoryOf _ _ _ _ _ hb, State.withMemoryOf_peek_other _ _ _ _ _ hb]
  split
  · exact ⟨rfl, rfl⟩
  · exact ⟨rfl, rfl⟩
  · exact s.setFatal_withMemoryOf b ram shadow bank _

theorem alikeBut_selectBank {b' : Board} (hb : b' ≠ b) (v : Byte) :
    AlikeBut b ram shadow bank (selectBank b' v s) (selectBank b' v (s.withMemoryOf b ram shadow bank)) := by
  unfold selectBank
  simp only [State.withMemoryOf_cfg, State.setBank_withMemoryOf _ _ _ _ _ hb]
  split
  · exact ⟨rfl, rfl⟩
  · exact s.setFatal_withMemoryOf b ram shadow bank _

theorem alikeBut_hwWrite {b' : Board} (hb : b' ≠ b) (off : Nat) (v : Byte) :
    AlikeBut b ram shadow bank (hwWrite b' off v s) (hwWrite b' off v (s.withMemoryOf b ram shadow bank)) := by
  unfold hwWrite
  simp only [State.setShadow_withMemoryOf _ _ _ _ _ hb, State.withMemoryOf_cfg, State.withMemoryOf_ctl]
  split
  · exact alikeBut_selectBank _ b ram shadow bank hb v
  · split
    · exact ⟨rfl, by cases b <;> rfl⟩
    · split
      · exact ⟨rfl, State.writeLatch_withMemoryOf _ b ram shadow bank v⟩
      · exact ⟨rfl, State.portWrite_withMemoryOf _ b ram shadow bank b' off v⟩

theorem alikeBut_busWrite {b' : Board} (hb : b' ≠ b) (a : Nat) (v : Byte) :
    AlikeBut b ram shadow bank (busWrite b' a v s) (busWrite b' a v (s.withMemoryOf b ram shadow bank)) := by
  unfold busWrite
  simp only [State.withMemoryOf_cfg]
  split
  · exact ⟨rfl, s.setRam_withMemoryOf b ram shadow bank hb _ v⟩
  · exact alikeBut_hwWrite s b ram shadow bank hb _ v
  · exact ⟨rfl, rfl⟩
  · exact s.setFatal_withMemoryOf b ram shadow bank _

end

/-! ### The step -/

section
variable {s t : State} {b : Board} {ram shadow : Memory} {bank : Nat}

/-- Two machines with the same board in focus, which agree in everything but the memory of another board. -/
def UnseenMemory (b : Board) (ram shadow : Memory) (bank : Nat) (t t' : State) : Prop :=
  b ≠ t.active ∧ t' = t.withMemoryOf b ram shadow bank

/-- An access that keeps the board in focus. -/
theorem AlikeBut.unseenMemory {α : Type} {r r' : EStateM.Result Unit State α} (hb : b ≠ s.active)
    (h : AlikeBut b ram shadow bank r r') (hactive : (after r).active = s.active) :
    ResultRel (UnseenMemory b ram shadow bank) r r' := by
  cases r <;> cases r'
  case ok.ok =>
    obtain ⟨hvalue, hstate⟩ := h
    exact ⟨hvalue, hactive ▸ hb, hstate⟩
  case error.error => exact ⟨hactive ▸ hb, h⟩
  all_goals exact h.elim

theorem stepSim_unseenMemory (b : Board) (ram shadow : Memory) (bank : Nat) :
    StepSim true (UnseenMemory b ram shadow bank) where
  same := by
    rintro s _ ⟨hb, rfl⟩
    exact ⟨s.withMemoryOf_core b ram shadow bank, s.withMemoryOf_cfg b ram shadow bank,
      s.withMemoryOf_active b ram shadow bank⟩
  core := by
    rintro s _ f _ ⟨hb, rfl⟩
    exact ⟨by rwa [State.modCore_active], s.modCore_withMemoryOf b ram shadow bank f⟩
  read := by
    rintro s _ a _ ⟨hb, rfl⟩
    rw [State.withMemoryOf_active]
    exact (alikeBut_busRead s b ram shadow bank hb.symm a).unseenMemory hb (onlyAsserts_busRead s a).1
  write := by
    rintro - s _ a v ⟨hb, rfl⟩
    rw [State.withMemoryOf_active]
    exact (alikeBut_busWrite s b ram shadow bank hb.symm a v).unseenMemory hb (busWrite_effect a v s).active
  fatal := by
    rintro s _ f ⟨hb, rfl⟩
    exact ⟨hb, s.setFatal_withMemoryOf b ram shadow bank f⟩

theorem UnseenMemory.tick (h : UnseenMemory b ram shadow bank s t) (n : Nat) :
    UnseenMemory b ram shadow bank (s.tick n) (t.tick n) := by
  obtain ⟨hb, rfl⟩ := h
  exact ⟨by rwa [State.tick_active], s.modCore_withMemoryOf b ram shadow bank _⟩

end

end Sys2Proof.Machine

namespace Sys2Proof

open Machine

/-- Settles O58: two runs, one with the replacement made, stay beside each other across every part of the step. -/
theorem otherMemoryUnseen : Obligations.OtherMemoryUnseen := by
  intro s b ram shadow bank hb
  obtain ⟨t, _, hstep, hstep', -, rfl⟩ := sim_coreStep (stepSim_unseenMemory b ram shadow bank) (fun n h => h.tick n)
    (s := s) ⟨hb, rfl⟩
  rw [hstep, hstep', mapNext]

end Sys2Proof
end

section
/-! The encoder and the decoder: the bytes of every instruction are an opcode of its page and the operand bytes of the
opcode's form; bytes that follow change no answer of the decoder; and what each part of the decoder refuses. -/

namespace Sys2Proof

/-! ### An opcode in its page -/

theorem lookupForm_append (xs ys : List (Byte × Form)) (b : Byte) :
    lookupForm (xs ++ ys) b = (lookupForm xs b).or (lookupForm ys b) := by
  induction xs with
  | nil => rfl
  | cons row xs ih => by_cases h : row.1 = b <;> simp [lookupForm, h, ih]

theorem lookupForm_eq_none_iff {rows : List (Byte × Form)} {b : Byte} :
    lookupForm rows b = none ↔ b ∉ rows.map Prod.fst := by
  induction rows with
  | nil => simp [lookupForm]
  | cons row rows ih =>
    by_cases h : row.1 = b
    · simp [lookupForm, h]
    · simp [lookupForm, h, ih, Ne.symm h]

/-- When one part of a map alone can hold an opcode, the map is searched in that part. -/
theorem lookupForm_flatMap {g : Nat → List (Byte × Form)} {m : Nat} {b : Byte} {ns : List Nat}
    (h : ∀ n ∈ ns, n ≠ m → lookupForm (g n) b = none) :
    lookupForm (ns.flatMap g) b = if m ∈ ns then lookupForm (g m) b else none := by
  induction ns with
  | nil => rfl
  | cons n ns ih =>
    rw [List.flatMap_cons, lookupForm_append, ih fun k hk => h k (List.mem_cons_of_mem n hk)]
    by_cases hn : n = m
    · by_cases hm : m ∈ ns <;> simp [hn, hm]
    · simp [h n List.mem_cons_self hn, Ne.symm hn]

/-- The rows of page 1 by the high nibble of their opcodes (30_encoding.md R140). -/
def page1Row : Nat → List (Byte × Form)
  | 0x0 => page1Row0
  | 0x1 => page1Row1
  | 0x2 => page1Row2
  | 0x3 => page1Row3
  | 0x4 => page1Row4
  | 0x5 => page1Row5
  | 0x6 => page1Row6
  | 0x7 => page1Row7
  | 0x8 => page1Row8
  | 0x9 => page1Row9
  | 0xA => page1RowA
  | 0xB => page1RowB
  | 0xC => page1RowC
  | 0xD => page1RowD
  | 0xE => page1RowE
  | _ => page1RowF

theorem page1_eq_flatMap : page1 = (List.range 16).flatMap page1Row := by
  simp only [List.range_eq_range', List.range', List.flatMap_cons, List.flatMap_nil, List.append_nil, page1,
    List.append_assoc, page1Row]

theorem page1Row_opcode : ((List.range 16).all fun n => (page1Row n).all fun row => row.1.toNat / 16 == n) = true := by
  decide

theorem toNat_of_mem_page1Row {n : Nat} (hn : n < 16) {b : Byte} (hb : b ∈ (page1Row n).map Prod.fst) :
    b.toNat / 16 = n := by
  obtain ⟨row, hrow, rfl⟩ := List.mem_map.mp hb
  exact beq_iff_eq.mp (List.all_eq_true.mp (List.all_eq_true.mp page1Row_opcode n (List.mem_range.mpr hn)) row hrow)

/-- An opcode of page 1 stands in the row of its high nibble. -/
theorem lookupForm_page1 (op : Byte) : lookupForm page1 op = lookupForm (page1Row (op.toNat / 16)) op := by
  rw [page1_eq_flatMap]
  have hother : ∀ n ∈ List.range 16, n ≠ op.toNat / 16 → lookupForm (page1Row n) op = none := fun n hn hne =>
    lookupForm_eq_none_iff.mpr fun hop => hne (toNat_of_mem_page1Row (List.mem_range.mp hn) hop).symm
  have hrow : op.toNat / 16 ∈ List.range 16 := List.mem_range.mpr (by omega)
  rw [lookupForm_flatMap hother, if_pos hrow]

theorem lookupForm_page1_of_row {op : Byte} {f : Form} (h : lookupForm (page1Row (op.toNat / 16)) op = some f) :
    lookupForm page1 op = some f := (lookupForm_page1 op).trans h

theorem decode_page1_of_lookup {op : Byte} {f : Form} (h : lookupForm page1 op = some f) (bs : List Byte) :
    decode (op :: bs) = decodeOperand f bs := by
  rw [lookupForm_page1] at h
  have h2 : op ≠ 0x10#8 := by rintro rfl; cases h
  have h3 : op ≠ 0x11#8 := by rintro rfl; cases h
  rw [decode_page1 h2 h3, decodePage_some (lookupForm_page1_of_row h)]

/-! ### The bytes of every instruction -/

/-- The operand bytes `bs` of an opcode of form `f` spell the instruction `i` (30_encoding.md R112 to R120, R138, R139). -/
inductive Spells : Form → List Byte → Instr → Prop where
  | inh (i : Instr) : Spells (.inh i) [] i
  | byte (f : Byte → Instr) (v : Byte) : Spells (.byte f) [v] (f v)
  | word (f : Word → Instr) (v : Word) : Spells (.word f) [hiByte v, loByte v] (f v)
  | idx (f : Indexed → Instr) (p : Indexed) : Spells (.idx f) p.bytes (f p)
  | regs (f : Reg → Reg → Instr) {r0 r1 : Reg} (h : r0.sameWidth r1 = true) :
      Spells (.regs f) [regPostbyte r0 r1] (f r0 r1)

/-- The bytes `bs` are an opcode of a page's map with the operand bytes of its form, and spell the instruction `i` (R110 to
R112, R140 to R142). -/
inductive Encodes (i : Instr) : List Byte → Prop where
  | page1 {op : Byte} {f : Form} {bs : List Byte} (row : lookupForm page1 op = some f) (operand : Spells f bs i) :
      Encodes i (op :: bs)
  | page2 {op : Byte} {f : Form} {bs : List Byte} (row : lookupForm page2 op = some f) (operand : Spells f bs i) :
      Encodes i (0x10#8 :: op :: bs)
  | page3 {op : Byte} {f : Form} {bs : List Byte} (row : lookupForm page3 op = some f) (operand : Spells f bs i) :
      Encodes i (0x11#8 :: op :: bs)

theorem Spells.decodeOperand {f : Form} {bs : List Byte} {i : Instr} (h : Spells f bs i) (rest : List Byte) :
    decodeOperand f (bs ++ rest) = .instr i rest := by
  cases h with
  | inh => rfl
  | byte => rfl
  | word f v => exact decodeOperand_word f v rest
  | idx f p => exact decodeOperand_idx f p rest
  | regs f h => exact decodeRegs_postbyte f h rest

theorem Spells.length_le {f : Form} {bs : List Byte} {i : Instr} (h : Spells f bs i) : bs.length ≤ 3 := by
  cases h with
  | idx f p => exact (Laws.indexed_length p).2
  | _ => simp

theorem Encodes.decode {i : Instr} {bs : List Byte} (h : Encodes i bs) (rest : List Byte) :
    decode (bs ++ rest) = .instr i rest := by
  cases h with
  | page1 row operand => exact (decode_page1_of_lookup row _).trans (operand.decodeOperand rest)
  | page2 row operand => exact (decodePage_some row _ _).trans (operand.decodeOperand rest)
  | page3 row operand => exact (decodePage_some row _ _).trans (operand.decodeOperand rest)

theorem Encodes.length_le {i : Instr} {bs : List Byte} (h : Encodes i bs) : bs.length ≤ maxLength := by
  cases h with
  | page1 row operand | page2 row operand | page3 row operand =>
    have := operand.length_le
    simp only [List.length_cons, maxLength]
    omega

/-- Every instruction's row, format by format. -/
theorem encodes_encode (i : Instr) (h : i.wellFormed = true) : Encodes i (encode i) := by
  cases i with
  | ldaImm v | ldaDir v | ldbImm v | ldbDir v | lddDir v | ldxDir v | lduDir v | staDir v | stbDir v | stdDir v
  | stxDir v | stuDir v | addaImm v | addaDir v | addbImm v | addbDir v | adcaImm v | adcaDir v | adcbImm v
  | adcbDir v | subaImm v | subaDir v | subbImm v | subbDir v | sbcaImm v | sbcaDir v | sbcbImm v | sbcbDir v
  | cmpaImm v | cmpaDir v | cmpbImm v | cmpbDir v | adddDir v | subdDir v | cmpxDir v | negDir v | incDir v
  | decDir v | clrDir v | tstDir v | andaImm v | andaDir v | andbImm v | andbDir v | oraImm v | oraDir v | orbImm v
  | orbDir v | eoraImm v | eoraDir v | eorbImm v | eorbDir v | bitaImm v | bitaDir v | bitbImm v | bitbDir v
  | comDir v | andcc v | orcc v | lsrDir v | asrDir v | aslDir v | rolDir v | rorDir v | pshs v | puls v | pshu v
  | pulu v | bra v | brn v | bhi v | bls v | bcc v | bcs v | bne v | beq v | bvc v | bvs v | bpl v | bmi v | bge v
  | blt v | bgt v | ble v | bsr v | jmpDir v | jsrDir v | cwai v =>
    exact .page1 (lookupForm_page1_of_row rfl) (.byte _ v)
  | ldaIdx p | ldbIdx p | lddIdx p | ldxIdx p | lduIdx p | staIdx p | stbIdx p | stdIdx p | stxIdx p | stuIdx p
  | leax p | leay p | leas p | leau p | addaIdx p | addbIdx p | adcaIdx p | adcbIdx p | subaIdx p | subbIdx p
  | sbcaIdx p | sbcbIdx p | cmpaIdx p | cmpbIdx p | adddIdx p | subdIdx p | cmpxIdx p | negIdx p | incIdx p
  | decIdx p | clrIdx p | tstIdx p | andaIdx p | andbIdx p | oraIdx p | orbIdx p | eoraIdx p | eorbIdx p | bitaIdx p
  | bitbIdx p | comIdx p | lsrIdx p | asrIdx p | aslIdx p | rolIdx p | rorIdx p | jmpIdx p | jsrIdx p =>
    exact .page1 (lookupForm_page1_of_row rfl) (.idx _ p)
  | nega | negb | inca | incb | deca | decb | clra | clrb | tsta | tstb | mul | daa | sex | abx | coma | comb | lsra
  | lsrb | asra | asrb | asla | aslb | rola | rolb | rora | rorb | rts | nop | swi | rti | sync =>
    exact .page1 (lookupForm_page1_of_row rfl) (.inh _)
  | tfr r0 r1 | exg r0 r1 =>
    exact .page1 (lookupForm_page1_of_row rfl) (.regs _ h)
  | ldaExt v | ldbExt v | lddImm v | lddExt v | ldxImm v | ldxExt v | lduImm v | lduExt v | staExt v | stbExt v
  | stdExt v | stxExt v | stuExt v | addaExt v | addbExt v | adcaExt v | adcbExt v | subaExt v | subbExt v
  | sbcaExt v | sbcbExt v | cmpaExt v | cmpbExt v | adddImm v | adddExt v | subdImm v | subdExt v | cmpxImm v
  | cmpxExt v | negExt v | incExt v | decExt v | clrExt v | tstExt v | andaExt v | andbExt v | oraExt v | orbExt v
  | eoraExt v | eorbExt v | bitaExt v | bitbExt v | comExt v | lsrExt v | asrExt v | aslExt v | rolExt v | rorExt v
  | lbra v | lbsr v | jmpExt v | jsrExt v =>
    exact .page1 (lookupForm_page1_of_row rfl) (.word _ v)
  | ldyDir v | ldsDir v | styDir v | stsDir v | cmpdDir v | cmpyDir v =>
    exact .page2 rfl (.byte _ v)
  | ldyIdx p | ldsIdx p | styIdx p | stsIdx p | cmpdIdx p | cmpyIdx p =>
    exact .page2 rfl (.idx _ p)
  | swi2 =>
    exact .page2 rfl (.inh _)
  | ldyImm v | ldyExt v | ldsImm v | ldsExt v | styExt v | stsExt v | cmpdImm v | cmpdExt v | cmpyImm v | cmpyExt v
  | lbrn v | lbhi v | lbls v | lbcc v | lbcs v | lbne v | lbeq v | lbvc v | lbvs v | lbpl v | lbmi v | lbge v
  | lblt v | lbgt v | lble v =>
    exact .page2 rfl (.word _ v)
  | cmpuDir v | cmpsDir v =>
    exact .page3 rfl (.byte _ v)
  | cmpuIdx p | cmpsIdx p =>
    exact .page3 rfl (.idx _ p)
  | swi3 =>
    exact .page3 rfl (.inh _)
  | cmpuImm v | cmpuExt v | cmpsImm v | cmpsExt v =>
    exact .page3 rfl (.word _ v)

/-- Decoding the bytes of an instruction gives it back, and the bytes after them. -/
theorem decode_encode {i : Instr} (h : i.wellFormed = true) (rest : List Byte) :
    decode (encode i ++ rest) = .instr i rest := (encodes_encode i h).decode rest

theorem encode_length_le {i : Instr} (h : i.wellFormed = true) : (encode i).length ≤ maxLength :=
  (encodes_encode i h).length_le

/-! ### Bytes that follow -/

/-- The same answer with more bytes left over. -/
def DecodedIndexed.extend (more : List Byte) : DecodedIndexed → DecodedIndexed
  | .ok p rest => .ok p (rest ++ more)
  | .incomplete => .incomplete
  | .invalid => .invalid

/-- The same answer with more bytes left over. -/
def Decoded.extend (more : List Byte) : Decoded → Decoded
  | .instr i rest => .instr i (rest ++ more)
  | .incomplete => .incomplete
  | .invalid why => .invalid why

theorem idxByte_append {f : Byte → Indexed} {bs : List Byte} (h : idxByte f bs ≠ .incomplete) (more : List Byte) :
    idxByte f (bs ++ more) = (idxByte f bs).extend more := by
  match bs with
  | [] => exact absurd rfl h
  | _ :: _ => rfl

theorem idxWord_append {f : Word → Indexed} {bs : List Byte} (h : idxWord f bs ≠ .incomplete) (more : List Byte) :
    idxWord f (bs ++ more) = (idxWord f bs).extend more := by
  match bs with
  | [] | [_] => exact absurd rfl h
  | _ :: _ :: _ => rfl

/-- A mode is refused, or it takes no, one or two extension bytes. -/
theorem decodeLayoutB_cases (mode : Nat) (rr : BitVec 2) (ind : Bool) :
    (∀ bs, decodeLayoutB mode rr ind bs = .invalid) ∨ (∃ p, ∀ bs, decodeLayoutB mode rr ind bs = idxDone p bs) ∨
      (∃ f, ∀ bs, decodeLayoutB mode rr ind bs = idxByte f bs) ∨
      ∃ f, ∀ bs, decodeLayoutB mode rr ind bs = idxWord f bs := by
  unfold decodeLayoutB
  dsimp only
  split
  case h_1 | h_3 =>
    cases ind
    · exact .inr (.inl ⟨_, fun _ => rfl⟩)
    · exact .inl fun _ => rfl
  case h_2 | h_4 | h_5 | h_6 | h_7 | h_10 => exact .inr (.inl ⟨_, fun _ => rfl⟩)
  case h_8 | h_11 => exact .inr (.inr (.inl ⟨_, fun _ => rfl⟩))
  case h_9 | h_12 => exact .inr (.inr (.inr ⟨_, fun _ => rfl⟩))
  case h_13 =>
    split
    · exact .inr (.inr (.inr ⟨_, fun _ => rfl⟩))
    · exact .inl fun _ => rfl
  case h_14 => exact .inl fun _ => rfl

theorem decodeLayoutB_append {mode : Nat} {rr : BitVec 2} {ind : Bool} {bs : List Byte}
    (h : decodeLayoutB mode rr ind bs ≠ .incomplete) (more : List Byte) :
    decodeLayoutB mode rr ind (bs ++ more) = (decodeLayoutB mode rr ind bs).extend more := by
  obtain hl | ⟨p, hl⟩ | ⟨f, hl⟩ | ⟨f, hl⟩ := decodeLayoutB_cases mode rr ind
  · rw [hl, hl]; rfl
  · rw [hl, hl]; rfl
  · rw [hl] at h ⊢; rw [hl, idxByte_append h]
  · rw [hl] at h ⊢; rw [hl, idxWord_append h]

theorem decodeIndexed_append {bs : List Byte} (h : decodeIndexed bs ≠ .incomplete) (more : List Byte) :
    decodeIndexed (bs ++ more) = (decodeIndexed bs).extend more := by
  cases bs with
  | nil => exact absurd rfl h
  | cons pb bs =>
    rw [List.cons_append]
    simp only [decodeIndexed] at h ⊢
    split
    · next hb => rw [if_pos hb] at h; exact decodeLayoutB_append h more
    · rfl

theorem decodeRegs_append (f : Reg → Reg → Instr) (pb : Byte) (bs more : List Byte) :
    decodeRegs f pb (bs ++ more) = (decodeRegs f pb bs).extend more := by
  unfold decodeRegs
  split
  · split <;> rfl
  · rfl

theorem decodeOperand_append {f : Form} {bs : List Byte} (h : decodeOperand f bs ≠ .incomplete) (more : List Byte) :
    decodeOperand f (bs ++ more) = (decodeOperand f bs).extend more := by
  match f, bs with
  | .inh _, _ | .byte _, _ :: _ | .word _, _ :: _ :: _ => rfl
  | .regs f, pb :: bs => exact decodeRegs_append f pb bs more
  | .byte _, [] | .word _, [] | .word _, [_] | .regs _, [] => exact absurd rfl h
  | .idx f, bs =>
    have hi : decodeIndexed bs ≠ .incomplete := fun hi => h (by rw [decodeOperand, hi])
    simp only [decodeOperand, decodeIndexed_append hi more]
    cases decodeIndexed bs <;> rfl

theorem decodePage_append {rows : List (Byte × Form)} {err : DecodeError} {bs : List Byte}
    (h : decodePage rows err bs ≠ .incomplete) (more : List Byte) :
    decodePage rows err (bs ++ more) = (decodePage rows err bs).extend more := by
  cases bs with
  | nil => exact absurd rfl h
  | cons b bs =>
    rw [List.cons_append]
    cases hl : lookupForm rows b with
    | none => rw [decodePage_none hl, decodePage_none hl, Decoded.extend]
    | some f =>
      rw [decodePage_some hl] at h ⊢
      rw [decodePage_some hl, decodeOperand_append h]

/-- Bytes that follow change no answer of the decoder: once it asks for no more, it has not looked at them. -/
theorem decode_append {bs : List Byte} (h : decode bs ≠ .incomplete) (more : List Byte) :
    decode (bs ++ more) = (decode bs).extend more := by
  cases bs with
  | nil => exact absurd rfl h
  | cons b bs =>
    rw [List.cons_append]
    by_cases h2 : b = 0x10#8
    · subst h2; exact decodePage_append h more
    · by_cases h3 : b = 0x11#8
      · subst h3; exact decodePage_append h more
      · rw [decode_page1 h2 h3] at h ⊢
        rw [decode_page1 h2 h3]
        exact decodePage_append h more

/-- A proper beginning of an instruction is incomplete: had it an answer, the whole would have the same one. -/
theorem decode_properBeginning {i : Instr} {bytes more : List Byte} (h : i.wellFormed = true)
    (hbytes : encode i = bytes ++ more) (hmore : more ≠ []) : decode bytes = .incomplete := by
  refine Classical.byContradiction fun hdec => ?_
  have hwhole : (decode bytes).extend more = .instr i [] := by
    rw [← decode_append hdec, ← hbytes, ← decode_encode h [], List.append_nil]
  cases hd : decode bytes with
  | incomplete => exact hdec hd
  | invalid why => rw [hd] at hwhole; cases hwhole
  | instr j rest =>
    rw [hd, Decoded.extend, Decoded.instr.injEq] at hwhole
    exact hmore (List.append_eq_nil_iff.mp hwhole.2).2

/-! ### What is refused -/

/-- Past the opcode only a postbyte is refused. -/
theorem decodeOperand_invalid {f : Form} {bs : List Byte} {why : DecodeError} (h : decodeOperand f bs = .invalid why) :
    why = .postbyte ∨ why = .registerPair := by
  match f, bs with
  | .idx f, bs =>
    rw [decodeOperand] at h
    split at h <;> cases h
    exact .inl rfl
  | .regs f, pb :: bs =>
    rw [decodeOperand, decodeRegs] at h
    split at h
    · split at h <;> cases h
      exact .inr rfl
    · cases h
      exact .inr rfl
  | .inh _, _ | .byte _, _ :: _ | .word _, _ :: _ :: _ => cases h
  | .byte _, [] | .word _, [] | .word _, [_] | .regs _, [] => cases h

/-- An opcode is refused exactly when its page has no row for it. -/
theorem decodePage_invalid_iff {rows : List (Byte × Form)} {err : DecodeError} (hpost : err ≠ .postbyte)
    (hpair : err ≠ .registerPair) (b : Byte) (bs : List Byte) :
    decodePage rows err (b :: bs) = .invalid err ↔ b ∉ rows.map Prod.fst := by
  rw [← lookupForm_eq_none_iff]
  refine ⟨fun h => ?_, fun h => decodePage_none h err bs⟩
  cases hl : lookupForm rows b with
  | none => rfl
  | some f =>
    rw [decodePage_some hl] at h
    exact ((decodeOperand_invalid h).elim hpost hpair).elim

/-- The undefined first bytes (30_encoding.md R143). -/
def undefinedPage1 : List Byte :=
  [0x01, 0x02, 0x05, 0x0B, 0x14, 0x15, 0x18, 0x1B, 0x38, 0x3E, 0x41, 0x42, 0x45, 0x4B, 0x4E, 0x51, 0x52, 0x55,
    0x5B, 0x5E, 0x61, 0x62, 0x65, 0x6B, 0x71, 0x72, 0x75, 0x7B, 0x87, 0x8F, 0xC7, 0xCD, 0xCF]

theorem page1Row_isNone : ∀ hi < 16, ∀ lo < 16,
    (lookupForm (page1Row hi) (BitVec.ofNat 8 (16 * hi + lo))).isNone =
      (0x10#8 :: 0x11#8 :: undefinedPage1).contains (BitVec.ofNat 8 (16 * hi + lo)) := by decide

/-- Page 1 has no row for the page bytes and for the undefined first bytes, and for no other. -/
theorem not_mem_page1_iff (b : Byte) : b ∉ page1.map Prod.fst ↔ b ∈ 0x10#8 :: 0x11#8 :: undefinedPage1 := by
  have hb : BitVec.ofNat 8 (16 * (b.toNat / 16) + b.toNat % 16) = b := by rw [Nat.div_add_mod, BitVec.ofNat_toNat]; simp
  have h := page1Row_isNone (b.toNat / 16) (by omega) (b.toNat % 16) (by omega)
  rw [hb] at h
  rw [← lookupForm_eq_none_iff, lookupForm_page1, ← Option.isNone_iff_eq_none, h, List.contains_iff_mem]

theorem decode_page1_invalid_iff {b : Byte} (h2 : b ≠ 0x10#8) (h3 : b ≠ 0x11#8) (bs : List Byte) :
    decode (b :: bs) = .invalid .page1 ↔ b ∈ undefinedPage1 := by
  rw [decode_page1 h2 h3, decodePage_invalid_iff (by decide) (by decide), not_mem_page1_iff, List.mem_cons,
    List.mem_cons, or_iff_right h2, or_iff_right h3]

theorem decode_page2_invalid_iff (b : Byte) (bs : List Byte) :
    decode (0x10#8 :: b :: bs) = .invalid .page2 ↔ b ∉ page2.map Prod.fst := by
  rw [decode_page2, decodePage_invalid_iff (by decide) (by decide)]

theorem decode_page3_invalid_iff (b : Byte) (bs : List Byte) :
    decode (0x11#8 :: b :: bs) = .invalid .page3 ↔ b ∉ page3.map Prod.fst := by
  rw [decode_page3, decodePage_invalid_iff (by decide) (by decide)]

theorem page2_opcodes : page2.map Prod.fst =
    [0x21, 0x22, 0x23, 0x24, 0x25, 0x26, 0x27, 0x28, 0x29, 0x2A, 0x2B, 0x2C, 0x2D, 0x2E, 0x2F, 0x3F, 0x83, 0x8C, 0x8E,
      0x93, 0x9C, 0x9E, 0x9F, 0xA3, 0xAC, 0xAE, 0xAF, 0xB3, 0xBC, 0xBE, 0xBF, 0xCE, 0xDE, 0xDF, 0xEE, 0xEF, 0xFE, 0xFF] :=
  rfl

theorem page3_opcodes : page3.map Prod.fst = [0x3F, 0x83, 0x8C, 0x93, 0x9C, 0xA3, 0xAC, 0xB3, 0xBC] := rfl

theorem idxByte_ne_invalid (f : Byte → Indexed) (bs : List Byte) : idxByte f bs ≠ .invalid := by
  cases bs <;> exact nofun

theorem idxWord_ne_invalid (f : Word → Indexed) (bs : List Byte) : idxWord f bs ≠ .invalid := by
  match bs with
  | [] | [_] | _ :: _ :: _ => exact nofun

/-- The undefined modes of layout B (R136). -/
theorem decodeLayoutB_invalid_iff {mode : Nat} (hmode : mode < 16) (rr : BitVec 2) (ind : Bool) (bs : List Byte) :
    decodeLayoutB mode rr ind bs = .invalid ↔
      mode = 7 ∨ mode = 10 ∨ mode = 14 ∨ ((mode = 0 ∨ mode = 2) ∧ ind = true) ∨
        (mode = 15 ∧ (ind = false ∨ rr ≠ 0b00#2)) := by
  have hdone (p : Indexed) : idxDone p bs ≠ .invalid := nofun
  match mode, hmode with
  | 0, _ | 1, _ | 2, _ | 3, _ | 4, _ | 5, _ | 6, _ | 7, _ | 8, _ | 9, _ | 10, _ | 11, _ | 12, _ | 13, _ | 14, _ | 15, _ =>
    cases ind <;> simp [decodeLayoutB, hdone, idxByte_ne_invalid, idxWord_ne_invalid]
  | n + 16, h => omega

theorem decodeIndexed_invalid_iff (pb : Byte) (bs : List Byte) :
    decodeIndexed (pb :: bs) = .invalid ↔ pb.getLsbD 7 = true ∧
      decodeLayoutB (pb.extractLsb' 0 4).toNat (pb.extractLsb' 5 2) (pb.getLsbD 4) bs = .invalid := by
  cases h : pb.getLsbD 7
  · simp only [decodeIndexed, h, Bool.false_eq_true, if_false, false_and, reduceCtorEq]
  · simp only [decodeIndexed, h, if_true, true_and]

/-- The fields of a postbyte in numbers (R120). -/
theorem postbyte_fields (pb : Byte) :
    (pb.getLsbD 7 = true ↔ 128 ≤ pb.toNat) ∧ (pb.extractLsb' 0 4).toNat = pb.toNat % 16 ∧
      (pb.getLsbD 4 = true ↔ pb.toNat / 16 % 2 = 1) ∧ (pb.extractLsb' 5 2 = 0b00#2 ↔ pb.toNat / 32 % 4 = 0) := by
  revert pb
  decide

theorem decodeOperand_idx_invalid_iff (f : Indexed → Instr) (bs : List Byte) :
    decodeOperand (.idx f) bs = .invalid .postbyte ↔ decodeIndexed bs = .invalid := by
  rw [decodeOperand]
  cases decodeIndexed bs <;> simp

theorem hiNibble_toNat (b : Byte) : (hiNibble b).toNat = b.toNat / 16 := by
  simp only [hiNibble, BitVec.extractLsb'_toNat, Nat.shiftRight_eq_div_pow]
  omega

theorem loNibble_toNat (b : Byte) : (loNibble b).toNat = b.toNat % 16 := by
  simp only [loNibble, BitVec.extractLsb'_toNat, Nat.shiftRight_eq_div_pow]
  omega

/-- The codes of the 16-bit registers (43_transfer_stack.md R300). -/
theorem exists_regOf_r16_iff (code : BitVec 4) : (∃ r, regOf code = some (.r16 r)) ↔ code.toNat ≤ 5 := by
  have hlt := code.isLt
  unfold regOf
  match code.toNat, hlt with
  | 0, _ | 1, _ | 2, _ | 3, _ | 4, _ | 5, _ | 6, _ | 7, _ | 8, _ | 9, _ | 10, _ | 11, _ | 12, _ | 13, _ | 14, _ | 15, _ =>
    simp
  | n + 16, h => omega

/-- The codes of the 8-bit registers (R300). -/
theorem exists_regOf_r8_iff (code : BitVec 4) :
    (∃ r, regOf code = some (.r8 r)) ↔ 8 ≤ code.toNat ∧ code.toNat ≤ 11 := by
  have hlt := code.isLt
  unfold regOf
  match code.toNat, hlt with
  | 0, _ | 1, _ | 2, _ | 3, _ | 4, _ | 5, _ | 6, _ | 7, _ | 8, _ | 9, _ | 10, _ | 11, _ | 12, _ | 13, _ | 14, _ | 15, _ =>
    simp
  | n + 16, h => omega

theorem Reg.sameWidth_iff (r0 r1 : Reg) : r0.sameWidth r1 = true ↔
    ((∃ w, r0 = .r16 w) ∧ ∃ w, r1 = .r16 w) ∨ ((∃ n, r0 = .r8 n) ∧ ∃ n, r1 = .r8 n) := by
  rcases r0 with _ | _ <;> rcases r1 with _ | _ <;> simp [Reg.sameWidth]

/-- The two nibbles of a register postbyte name two registers of one width (43_transfer_stack.md R300). -/
theorem sameWidth_codes_iff (pb : Byte) :
    (∃ r0 r1, regOf (hiNibble pb) = some r0 ∧ regOf (loNibble pb) = some r1 ∧ r0.sameWidth r1 = true) ↔
      (pb.toNat / 16 ≤ 5 ∧ pb.toNat % 16 ≤ 5) ∨
        (8 ≤ pb.toNat / 16 ∧ pb.toNat / 16 ≤ 11 ∧ 8 ≤ pb.toNat % 16 ∧ pb.toNat % 16 ≤ 11) := by
  have hhi16 := exists_regOf_r16_iff (hiNibble pb)
  have hlo16 := exists_regOf_r16_iff (loNibble pb)
  have hhi8 := exists_regOf_r8_iff (hiNibble pb)
  have hlo8 := exists_regOf_r8_iff (loNibble pb)
  rw [hiNibble_toNat] at hhi16 hhi8
  rw [loNibble_toNat] at hlo16 hlo8
  rw [← and_assoc, ← hhi16, ← hlo16, ← hhi8, ← hlo8]
  simp only [Reg.sameWidth_iff]
  constructor
  · rintro ⟨r0, r1, h0, h1, ⟨⟨q0, rfl⟩, q1, rfl⟩ | ⟨⟨q0, rfl⟩, q1, rfl⟩⟩
    · exact .inl ⟨⟨q0, h0⟩, q1, h1⟩
    · exact .inr ⟨⟨q0, h0⟩, q1, h1⟩
  · rintro (⟨⟨q0, h0⟩, q1, h1⟩ | ⟨⟨q0, h0⟩, q1, h1⟩)
    · exact ⟨_, _, h0, h1, .inl ⟨⟨q0, rfl⟩, q1, rfl⟩⟩
    · exact ⟨_, _, h0, h1, .inr ⟨⟨q0, rfl⟩, q1, rfl⟩⟩

theorem decodeRegs_invalid_iff (f : Reg → Reg → Instr) (pb : Byte) (bs : List Byte) :
    decodeRegs f pb bs = .invalid .registerPair ↔
      ¬ ∃ r0 r1, regOf (hiNibble pb) = some r0 ∧ regOf (loNibble pb) = some r1 ∧ r0.sameWidth r1 = true := by
  unfold decodeRegs
  cases regOf (hiNibble pb) <;> cases regOf (loNibble pb) <;> simp

/-- Settles O1, by running the decoder on each word. -/
theorem decodesWrittenWords : Obligations.DecodesWrittenWords := by
  unfold Obligations.DecodesWrittenWords
  decide

/-- Settles O4: an answer on a beginning would be the answer on the whole. -/
theorem properBeginnings : Obligations.ProperBeginnings := fun _ _ _ => decode_properBeginning

/-- Settles O5, page by page, then the two kinds of postbyte. -/
theorem refusedEncodings : Obligations.RefusedEncodings := by
  refine ⟨fun b rest h2 h3 => decode_page1_invalid_iff h2 h3 rest,
    fun b rest => page2_opcodes ▸ decode_page2_invalid_iff b rest,
    fun b rest => page3_opcodes ▸ decode_page3_invalid_iff b rest, fun f pb rest => ?_, fun op pb rest hop => ?_⟩
  · obtain ⟨hlayout, hmode, hind, hrr⟩ := postbyte_fields pb
    rw [decodeOperand_idx_invalid_iff, decodeIndexed_invalid_iff, decodeLayoutB_invalid_iff (BitVec.isLt _), hmode,
      hlayout, hind, ← Bool.not_eq_true, hind, Ne, hrr]
    simp
  · have hregs : ∃ f, lookupForm page1 op = some (.regs f) := by
      rcases hop with rfl | rfl <;> exact ⟨_, lookupForm_page1_of_row rfl⟩
    obtain ⟨f, hf⟩ := hregs
    rw [decode_page1_of_lookup hf, decodeOperand, decodeRegs_invalid_iff, sameWidth_codes_iff]

end Sys2Proof
end

section
/-! Fetching: bytes that stand at PC outside the hardware window are read one by one until they decode, and a step of a
machine that is ready to run executes what they decode to. -/

namespace Sys2Proof.Machine

/-- A byte fetched outside the hardware window moves PC past it and changes nothing else (20_memory.md R66). -/
theorem fetch8_plain {s : State} (h : s.myCfg.plain s.core.pc = true) :
    fetch8 s = .ok (s.at s.core.pc) (s.modCore fun c => { c with pc := c.pc + 1#16 }) := by
  rw [fetch8, getCore_bind, op_bind_ok (memRead8_plain h), modifyCore_bind, op_pure]

/-- What `shows` says of the first byte and of the others. -/
theorem State.shows_cons {s : State} {a : Word} {v : Byte} {vs : List Byte} :
    s.shows a (v :: vs) = true ↔ s.at a = v ∧ s.shows (a + 1#16) vs = true := by
  rw [State.shows, Bool.and_eq_true, decide_eq_true_eq]

@[simp] theorem State.modCore_shows (s : State) (f : Core → Core) (a : Word) (vs : List Byte) :
    (s.modCore f).shows a vs = s.shows a vs := by
  induction vs generalizing a with
  | nil => rfl
  | cons v vs ih => rw [State.shows, State.shows, ih, State.modCore_at]

theorem BoardCfg.plainRange_succ {c : BoardCfg} {a : Word} {n : Nat} :
    c.plainRange a (n + 1) = true ↔ c.plain a = true ∧ c.plainRange (a + 1#16) n = true := by
  rw [BoardCfg.plainRange, Bool.and_eq_true]

/-- The core with PC moved past `n` bytes. -/
def Core.skip (n : Nat) (c : Core) : Core := { c with pc := c.pc + BitVec.ofNat 16 n }

@[simp] theorem Core.skip_zero : Core.skip 0 = fun c => c := by
  funext c
  simp [Core.skip]

/-- Past one byte and then past `n` more. -/
theorem Core.skip_succ (n : Nat) : (fun c : Core => Core.skip n { c with pc := c.pc + 1#16 }) = Core.skip (n + 1) := by
  funext c
  simp only [Core.skip, Core.mk.injEq, and_true, true_and]
  bv_omega

/-- Bytes that do not decode yet ask for the next one. -/
theorem fetchFrom_incomplete {bytes : List Byte} (h : decode bytes = .incomplete) (start : Word) (fuel : Nat) :
    fetchFrom start (fuel + 1) bytes = fetch8 >>= fun v => fetchFrom start fuel (bytes ++ [v]) := by
  rw [fetchFrom, h]

theorem fetchFrom_instr {bytes rest : List Byte} {i : Instr} (h : decode bytes = .instr i rest) (start : Word)
    (fuel : Nat) : fetchFrom start fuel bytes = pure i := by
  cases fuel <;> simp only [fetchFrom, h]

/-- While no beginning of the bytes that stand at PC has an answer, they are fetched one after another (30_encoding.md
R145). -/
theorem fetchFrom_shows {start : Word} {more : List Byte} (fuel : Nat) {bytes : List Byte} {s : State}
    (hincomplete : ∀ front rest, more = front ++ rest → rest ≠ [] → decode (bytes ++ front) = .incomplete)
    (hshows : s.shows s.core.pc more = true) (hplain : s.myCfg.plainRange s.core.pc more.length = true) :
    fetchFrom start (fuel + more.length) bytes s =
      fetchFrom start fuel (bytes ++ more) (s.modCore (Core.skip more.length)) := by
  induction more generalizing bytes s with
  | nil => simp
  | cons v more ih =>
    obtain ⟨hv, hshows⟩ := State.shows_cons.mp hshows
    obtain ⟨hpc, hplain⟩ := BoardCfg.plainRange_succ.mp hplain
    have hfirst : decode bytes = .incomplete := by
      simpa using hincomplete [] (v :: more) rfl (List.cons_ne_nil v more)
    have hrest (front rest : List Byte) (h : more = front ++ rest) (hne : rest ≠ []) :
        decode (bytes ++ [v] ++ front) = .incomplete := by
      simpa using hincomplete (v :: front) rest (congrArg (v :: ·) h) hne
    rw [List.length_cons, ← Nat.add_assoc, fetchFrom_incomplete hfirst, op_bind_ok (fetch8_plain hpc), hv,
      ih hrest (by simpa using hshows) (by simpa using hplain), State.modCore_modCore, Core.skip_succ,
      List.append_assoc, List.singleton_append]

/-- The bytes of an instruction at PC are fetched, and PC is left after the last one. -/
theorem fetchInstr_encode {s : State} {i : Instr} (hwf : i.wellFormed = true)
    (hshows : s.shows s.core.pc (encode i) = true)
    (hplain : s.myCfg.plainRange s.core.pc (encode i).length = true) :
    fetchInstr s = .ok i (s.modCore (Core.skip (encode i).length)) := by
  have hfuel : maxLength = maxLength - (encode i).length + (encode i).length :=
    (Nat.sub_add_cancel (encode_length_le hwf)).symm
  have hdecode : decode ([] ++ encode i) = .instr i [] := by simpa using decode_encode hwf []
  rw [fetchInstr, getCore_bind, hfuel, fetchFrom_shows _ (fun _ _ => decode_properBeginning hwf) hshows hplain,
    fetchFrom_instr hdecode, op_pure]

theorem instrStep_ok {s t : State} {i : Instr} (h : fetchInstr s = .ok i t) : instrStep s = exec i t := by
  rw [instrStep, h]

/-- The step of a machine that is ready to run is the instruction at PC (60_exceptions.md R419). -/
theorem step_of_ready {s : State} (h : s.ready) : step s = instrStep s := by
  obtain ⟨hfatal, hlock, hhost, hwait, hdue⟩ := h
  rw [step, hfatal]
  simp only [runningStep]
  rw [hlock]
  simp only [idleMachineStep, hhost, coreStep, hwait, runStep, hdue]

end Sys2Proof.Machine

namespace Sys2Proof

open Machine

/-- Settles O6: the bytes are fetched one by one, since no proper beginning of them has an answer. -/
theorem stepRunsDecoded : Obligations.StepRunsDecoded := by
  intro s i hready hwf hshows hplain
  exact (step_of_ready hready).trans (instrStep_ok (fetchInstr_encode hwf hshows hplain))

end Sys2Proof
end

section
/-! Effective addresses: what each mode of indexed addressing computes, without and with indirection. -/

namespace Sys2Proof.Machine

/-- A sign-extended offset added to an address is the sum in the integers, modulo 0x10000 (30_encoding.md R121, R127 to
R129, R132). -/
theorem add_signExtend (w : Word) {k : Nat} (n : BitVec k) :
    w + n.signExtend 16 = BitVec.ofInt 16 (w.toNat + n.toInt) := by
  rw [BitVec.ofInt_add, BitVec.ofInt_natCast, BitVec.ofNat_toNat, BitVec.setWidth_eq, BitVec.signExtend]

/-- A change of the stepping core depends on what it makes of that core only. -/
theorem State.modCore_congr {s : State} {f g : Core → Core} (h : f s.core = g s.core) :
    s.modCore f = s.modCore g := by
  rw [State.modCore, State.modCore, h]

theorem word_eq_ofNat (hi lo : Byte) : word hi lo = BitVec.ofNat 16 (hi.toNat * 256 + lo.toNat) := by
  rw [← word_toNat, BitVec.ofNat_toNat, BitVec.setWidth_eq]

theorem ea_direct (s : State) (n : Byte) : ea (.dir n) s = .ok (word s.core.dp n) s := rfl

theorem ea_extended (s : State) (n : Word) : ea (.ext n) s = .ok n s := rfl

/-- A mode without indirection answers its pointer. -/
theorem ea_unindirected {p : Indexed} (h : p.isIndirect = false) (s : State) :
    ea (.idx p) s = .ok (p.pointer s.core) (s.modCore p.update) := indexedEA_direct h s

/-- A mode with indirection reads the address at its pointer. -/
theorem ea_indirected {p : Indexed} (h : p.isIndirect = true) (s : State) :
    ea (.idx p) s = memRead16 (p.pointer s.core) (s.modCore p.update) := indexedEA_indirect h s

/-- A mode without indirection that leaves its base register (R121, R126 to R133). -/
theorem ea_fixed {p : Indexed} (s : State) (hdirect : p.isIndirect = false := by rfl)
    (hupdate : p.update = fun c => c := by rfl) : ea (.idx p) s = .ok (p.pointer s.core) s := by
  rw [ea_unindirected hdirect, hupdate, State.modCore_id]

/-- Extended indirect: the word at the operand (R134). -/
theorem ea_extendedIndirect (s : State) (n : Word) : ea (.idx (.extInd n)) s = memRead16 n s := by
  have hupdate : (Indexed.extInd n).update = fun c => c := rfl
  rw [ea_indirected rfl, hupdate, State.modCore_id, Indexed.pointer]

/-- A mode without indirection whose pointer is a register and a sign-extended offset. -/
theorem ea_signedOffset {p : Indexed} {s : State} (base : Word) {k : Nat} (n : BitVec k)
    (hpointer : p.pointer s.core = base + n.signExtend 16 := by rfl) (hdirect : p.isIndirect = false := by rfl)
    (hupdate : p.update = fun c => c := by rfl) :
    ea (.idx p) s = .ok (BitVec.ofInt 16 (base.toNat + n.toInt)) s := by
  rw [ea_fixed s hdirect hupdate, hpointer, add_signExtend]

/-- An auto mode without indirection: its base register moves (R122 to R125). -/
theorem ea_auto {p : Indexed} {s : State} (r : IdxReg) (distance : Word)
    (hupdate : p.update s.core = s.core.set16 (idxReg r) (s.core.get16 (idxReg r) + distance))
    (hdirect : p.isIndirect = false := by rfl) :
    ea (.idx p) s = .ok (p.pointer s.core)
      (s.modCore fun c => c.set16 (idxReg r) (s.core.get16 (idxReg r) + distance)) := by
  rw [ea_unindirected hdirect]
  exact congrArg _ (State.modCore_congr hupdate)

/-- A mode with the indirection bit, beside the same mode without (R135): the same address and the same change of the base
register, then the read of the address there. -/
theorem ea_indirection {p q : Indexed} (s : State) (hp : p.isIndirect = false := by rfl)
    (hq : q.isIndirect = true := by rfl) (hpointer : q.pointer = p.pointer := by rfl)
    (hupdate : q.update = p.update := by rfl) :
    ∃ a t, ea (.idx p) s = .ok a t ∧ ea (.idx q) s = memRead16 a t :=
  ⟨_, _, ea_unindirected hp s, by rw [ea_indirected hq, hpointer, hupdate]⟩

end Sys2Proof.Machine

namespace Sys2Proof

open Machine

/-- Settles O19: an auto mode moves its base register, an 8-bit or 5-bit offset is sign-extended, and the others answer
their pointer. -/
theorem registerModes : Obligations.RegisterModes := by
  intro s r n5 n8 n16
  have hdec1 : (Indexed.dec1 r).update s.core = s.core.set16 (idxReg r) (s.core.get16 (idxReg r) + -1#16) := by
    rw [Indexed.update, BitVec.sub_eq_add_neg]
  have hdec2 : (Indexed.dec2 r false).update s.core = s.core.set16 (idxReg r) (s.core.get16 (idxReg r) + -2#16) := by
    rw [Indexed.update, BitVec.sub_eq_add_neg]
  exact ⟨ea_signedOffset _ n5, ea_auto r 1#16 rfl, ea_auto r 2#16 rfl, ea_auto r (-1#16) hdec1,
    ea_auto r (-2#16) hdec2, ea_fixed s, ea_signedOffset _ s.core.b, ea_signedOffset _ s.core.a,
    ea_signedOffset _ n8, ea_fixed s, ea_fixed s⟩

/-- Settles O20: the ten modes with an indirection bit, each beside itself without it. -/
theorem otherModes : Obligations.OtherModes := by
  intro s r n8 n16
  refine ⟨?_, ea_extended s n16, ea_signedOffset _ n8, ea_fixed s, ea_extendedIndirect s n16, ?_⟩
  · rw [ea_direct, word_eq_ofNat]
  · simp only [List.forall_mem_cons]
    exact ⟨ea_indirection s, ea_indirection s, ea_indirection s, ea_indirection s, ea_indirection s, ea_indirection s,
      ea_indirection s, ea_indirection s, ea_indirection s, ea_indirection s, nofun⟩

end Sys2Proof
end

section
/-! Loads, stores and load effective address: an operand's address and value, the flags of a value moved, and what each
family leaves from them. -/

namespace Sys2Proof.Machine

/-! ### Addresses and operands -/

section
variable {s t : State}

/-- An operation answers one value and leaves one state. -/
theorem op_ok_unique {α : Type} {r : EStateM.Result Unit State α} {x y : α} {u : State} (h : r = .ok x t)
    (h' : r = .ok y u) : x = y ∧ t = u := by
  cases h.symm.trans h'
  exact ⟨rfl, rfl⟩

theorem addresses_exists (m : MemOp) (s : State) : ∃ a t, Addresses m s a t := by
  obtain ⟨a, t, hea, heffect⟩ := ea_ok m s
  exact ⟨a, t, hea, heffect, fun hplain => op_ok_unique hea (ea_plain hplain)⟩

theorem reads8_exists (src : Src8) (s : State) : ∃ v t, Reads8 src s v t := by
  obtain ⟨v, t, hread, heffect⟩ := operand8_ok src s
  exact ⟨v, t, hread, heffect, fun hplain => op_ok_unique hread (operand8_plain hplain)⟩

theorem reads16_exists (src : Src16) (s : State) : ∃ v t, Reads16 src s v t := by
  obtain ⟨v, t, hread, heffect⟩ := operand16_ok src s
  exact ⟨v, t, hread, heffect, fun hplain => op_ok_unique hread (operand16_plain hplain)⟩

theorem cfg_of_readEffect {f : Core → Core} (h : (s.modCore f).ReadEffect t) : t.cfg = s.cfg :=
  h.cfg.trans (s.modCore_cfg f)

theorem Reads8.cfg {src : Src8} {v : Byte} (h : Reads8 src s v t) : t.cfg = s.cfg := by
  obtain ⟨-, heffect, -⟩ := h
  exact cfg_of_readEffect heffect

theorem Reads16.cfg {src : Src16} {v : Word} (h : Reads16 src s v t) : t.cfg = s.cfg := by
  obtain ⟨-, heffect, -⟩ := h
  exact cfg_of_readEffect heffect

theorem Addresses.cfg {m : MemOp} {a : Word} (h : Addresses m s a t) : t.cfg = s.cfg := by
  obtain ⟨-, heffect, -⟩ := h
  exact cfg_of_readEffect heffect

theorem Addresses.active {m : MemOp} {a : Word} (h : Addresses m s a t) : t.active = s.active := by
  obtain ⟨-, heffect, -⟩ := h
  exact heffect.active.trans (s.modCore_active _)

theorem Addresses.myCfg {m : MemOp} {a : Word} (h : Addresses m s a t) : t.myCfg = s.myCfg := by
  rw [State.myCfg, h.cfg, h.active, State.myCfg]

/-- Computing an address leaves every byte of memory. -/
theorem Addresses.keepsBut {m : MemOp} {a : Word} (h : Addresses m s a t) : s.KeepsBut t [] := by
  obtain ⟨-, heffect, -⟩ := h
  exact .of_peek (fun b x => (heffect.peek b x).trans (s.modCore_peek _ b x)) []

end

/-! ### An instruction's cycles -/

/-- The cycles of an operation that keeps the configuration are those of the state before it. -/
theorem perform_ok_of_cfg {opcode : Nat} (addend : Cfg → Nat) {m : Op Unit} {s t : State} (h : m s = .ok () t)
    (hcfg : t.cfg = s.cfg) : perform opcode (fun u => addend u.cfg) m s =
      .next (t.tick (s.cfg.cycles.opcode opcode + addend s.cfg)) := by
  rw [perform_ok h, hcfg]

/-! ### Flags in numbers -/

theorem decide_eq_zero_toNat {w : Nat} (v : BitVec w) : decide (v = 0#w) = decide (v.toNat = 0) :=
  decide_eq_decide.mpr (by rw [BitVec.toNat_eq, BitVec.toNat_zero])

theorem getLsbD_seven (v : Byte) : v.getLsbD 7 = decide (128 ≤ v.toNat) :=
  v.msb_eq_getLsbD_last.symm.trans v.msb_eq_decide

theorem getLsbD_fifteen (v : Word) : v.getLsbD 15 = decide (0x8000 ≤ v.toNat) :=
  v.msb_eq_getLsbD_last.symm.trans v.msb_eq_decide

/-- `logic8` (42_logic_shift.md R260), said in the numbers the bits stand for. -/
theorem CC.logic8_eq (cc : CC) (v : Byte) :
    cc.logic8 v = { cc with n := decide (128 ≤ v.toNat), z := decide (v.toNat = 0), v := false } := by
  rw [CC.logic8, getLsbD_seven, decide_eq_zero_toNat]

theorem CC.logic16_eq (cc : CC) (v : Word) :
    cc.logic16 v = { cc with n := decide (0x8000 ≤ v.toNat), z := decide (v.toNat = 0), v := false } := by
  rw [CC.logic16, getLsbD_fifteen, decide_eq_zero_toNat]

/-! ### A register loaded -/

@[simp] theorem Core.armIf_cc (c : Core) (on : Bool) : (c.armIf on).cc = c.cc := rfl

theorem Core.armIf_false (c : Core) : c.armIf false = c := by rw [Core.armIf, Bool.or_false]

/-- The register takes the value; a load of `S` arms the NMI of a core that has one (60_exceptions.md R410). -/
theorem loadReg_arms (r : Reg16) (v : Word) (s : State) : loadReg r v s =
    .ok () (s.modCore fun c => (c.set16 r v).armIf (decide (r = .s) && s.cfg.hasNmi)) := by
  rw [loadReg_apply]
  cases r
  case s => rfl
  all_goals simp only [reduceCtorEq, decide_false, Bool.false_and, Core.armIf_false]

theorem wideReg_eq_s (r : Wide) : wideReg r = .s ↔ r = .s := by cases r <;> decide

theorem idxReg_eq_s (r : IdxReg) : idxReg r = .s ↔ r = .s := by cases r <;> decide

/-! ### Loads -/

section
variable {s t : State}

theorem bin8_of_reads {o : Bin8} {r : Acc} {src : Src8} {m : Byte} (h : Reads8 src s m t) :
    bin8 o r src s = .ok () (t.modCore (o.apply r m)) := by
  obtain ⟨hread, -, -⟩ := h
  rw [bin8, op_bind_ok hread, modifyCore_apply]

theorem exec_bin8_of_reads (o : Bin8) (r : Acc) {src : Src8} {m : Byte} (h : Reads8 src s m t) :
    exec (Instr.bin8 o r src) s = .next ((t.modCore (o.apply r m)).tick
      (s.cfg.cycles.opcode (Instr.bin8 o r src).opcode + src.addend s.cfg)) := by
  rw [exec_bin8, perform_ok_of_cfg src.addend (bin8_of_reads h) (by rw [State.modCore_cfg, h.cfg])]

theorem Bin8.apply_ld (r : Acc) (m : Byte) : Bin8.ld.apply r m = fun c => (c.setAcc r m).setCC
    { c.cc with n := decide (128 ≤ m.toNat), z := decide (m.toNat = 0), v := false } := by
  funext c
  rw [Bin8.apply, CC.logic8_eq]

theorem load16_of_reads (r : Wide) {src : Src16} {m : Word} (h : Reads16 src s m t) : load16 r src s =
    .ok () (t.modCore fun c => ((c.set16 (wideReg r) m).armIf (decide (r = .s) && s.cfg.hasNmi)).setCC
      { c.cc with n := decide (0x8000 ≤ m.toNat), z := decide (m.toNat = 0), v := false }) := by
  have ⟨hread, _, _⟩ := h
  rw [load16, op_bind_ok hread, op_bind_ok (loadReg_arms _ m t), modifyCore_apply, State.modCore_modCore, h.cfg]
  simp only [wideReg_eq_s, CC.logic16_eq, Core.armIf_cc, Core.set16_cc]

theorem exec_load16_of_reads (r : Wide) {src : Src16} {m : Word} (h : Reads16 src s m t) :
    exec (Instr.load16 r src) s = .next ((t.modCore fun c =>
      ((c.set16 (wideReg r) m).armIf (decide (r = .s) && s.cfg.hasNmi)).setCC
        { c.cc with n := decide (0x8000 ≤ m.toNat), z := decide (m.toNat = 0), v := false }).tick
      (s.cfg.cycles.opcode (Instr.load16 r src).opcode + src.addend s.cfg)) := by
  rw [exec_load16, perform_ok_of_cfg src.addend (load16_of_reads r h) (by rw [State.modCore_cfg, h.cfg])]

end

/-! ### Load effective address -/

section
variable {s t : State} {a : Word}

/-- `LEAX` and `LEAY` write Z, `LEAU` and `LEAS` leave the flags (40_load_store.md R175 to R178). -/
theorem leaFlags_eq (r : IdxReg) (c k : Core) (hcc : k.cc = c.cc) (a : Word) :
    (if leaSetsZ r then k.setCC { k.cc with z := decide (a = 0#16) } else k) =
      k.setCC { c.cc with z := if r = .x ∨ r = .y then decide (a.toNat = 0) else c.cc.z } := by
  rw [← hcc, decide_eq_zero_toNat]
  cases r <;> rfl

theorem lea_of_addresses (r : IdxReg) {p : Indexed} (h : Addresses (.idx p) s a t) : lea r p s =
    .ok () (t.modCore fun c => ((c.set16 (idxReg r) a).armIf (decide (r = .s) && s.cfg.hasNmi)).setCC
      { c.cc with z := if r = .x ∨ r = .y then decide (a.toNat = 0) else c.cc.z }) := by
  have ⟨hea, _, _⟩ := h
  have hindexed : indexedEA p s = .ok a t := hea
  rw [lea, op_bind_ok hindexed, op_bind_ok (loadReg_arms _ a t), modifyCore_apply, State.modCore_modCore, h.cfg]
  simp only [idxReg_eq_s]
  congr 2
  funext c
  exact leaFlags_eq r c _ (by rw [Core.armIf_cc, Core.set16_cc]) a

theorem exec_lea_of_addresses (r : IdxReg) {p : Indexed} (h : Addresses (.idx p) s a t) :
    exec (Instr.lea r p) s = .next ((t.modCore fun c =>
      ((c.set16 (idxReg r) a).armIf (decide (r = .s) && s.cfg.hasNmi)).setCC
        { c.cc with z := if r = .x ∨ r = .y then decide (a.toNat = 0) else c.cc.z }).tick
      (s.cfg.cycles.opcode (Instr.lea r p).opcode + s.cfg.cycles.indexed p.postbyte)) := by
  rw [exec_lea, perform_ok_of_cfg (fun c => c.cycles.indexed p.postbyte) (lea_of_addresses r h)
    (by rw [State.modCore_cfg, h.cfg])]

end

/-! ### Writes that end in `BankError`, and their second byte -/

section
variable {s : State} {a : Word}

theorem memWrite8_bankFault {v : Byte} (h : s.myCfg.rejects a v = true) :
    memWrite8 a v s = .error () (s.bankFault a v) := by
  rw [memWrite8_rejected h, State.bankFault]

theorem memWrite16_ok {v : Word} (hhigh : s.myCfg.rejects a (hiByte v) = false)
    (hlow : s.myCfg.rejects (a + 1#16) (loByte v) = false) :
    memWrite16 a v s = .ok () ((s.stored a (hiByte v)).stored (a + 1#16) (loByte v)) := by
  rw [memWrite16_accepted hhigh, memWrite8_ok (by rwa [State.stored_myCfg])]

theorem memWrite16_rejectedLow {v : Word} (hhigh : s.myCfg.rejects a (hiByte v) = false)
    (hlow : s.myCfg.rejects (a + 1#16) (loByte v) = true) :
    memWrite16 a v s = .error () ((s.stored a (hiByte v)).bankFault (a + 1#16) (loByte v)) := by
  rw [memWrite16_accepted hhigh, memWrite8_bankFault (by rwa [State.stored_myCfg])]

end

/-! ### Stores -/

section
variable {s t u : State} {a : Word} {m : MemOp} {as bs : List Word}

/-- The accumulator is read once the address is known, then written, then the flags (30_encoding.md R137). -/
theorem store8_of_addresses (r : Acc) (h : Addresses m s a t) : store8 r m s =
    (memWrite8 a (t.core.acc r) >>= fun _ => modifyCore fun k => k.setCC (k.cc.logic8 (t.core.acc r))) t := by
  obtain ⟨hea, -, -⟩ := h
  rw [store8, op_bind_ok hea, getCore_bind]

theorem store16_of_addresses (r : Wide) (h : Addresses m s a t) : store16 r m s =
    (memWrite16 a (t.core.get16 (wideReg r)) >>= fun _ =>
      modifyCore fun k => k.setCC (k.cc.logic16 (t.core.get16 (wideReg r)))) t := by
  obtain ⟨hea, -, -⟩ := h
  rw [store16, op_bind_ok hea, getCore_bind]

theorem exec_store8_accepted (r : Acc) {v : Byte} (h : Addresses m s a t) (hv : t.core.acc r = v)
    (haccepts : s.myCfg.rejects a v = false) :
    exec (Instr.store8 r m) s = .next (((t.stored a v).modCore fun c => c.setCC
      { c.cc with n := decide (128 ≤ v.toNat), z := decide (v.toNat = 0), v := false }).tick
        (s.cfg.cycles.opcode (Instr.store8 r m).opcode + m.addend s.cfg)) := by
  have hstore := store8_of_addresses r h
  rw [hv, op_bind_ok (memWrite8_ok (by rwa [h.myCfg])), modifyCore_apply] at hstore
  rw [exec_store8, perform_ok_of_cfg m.addend hstore (by rw [State.modCore_cfg, State.stored_cfg, h.cfg])]
  simp only [CC.logic8_eq]

theorem exec_store8_rejected (r : Acc) {v : Byte} (h : Addresses m s a t) (hv : t.core.acc r = v)
    (hrejects : s.myCfg.rejects a v = true) : exec (Instr.store8 r m) s = .next (t.bankFault a v) := by
  have hstore := store8_of_addresses r h
  rw [hv, op_bind_error (memWrite8_bankFault (by rwa [h.myCfg]))] at hstore
  rw [exec_store8, perform_error hstore]

theorem exec_store16_accepted (r : Wide) {v : Word} (h : Addresses m s a t) (hv : t.core.get16 (wideReg r) = v)
    (hhigh : s.myCfg.rejects a (hiByte v) = false) (hlow : s.myCfg.rejects (a + 1#16) (loByte v) = false) :
    exec (Instr.store16 r m) s =
      .next ((((t.stored a (hiByte v)).stored (a + 1#16) (loByte v)).modCore fun c => c.setCC
        { c.cc with n := decide (0x8000 ≤ v.toNat), z := decide (v.toNat = 0), v := false }).tick
          (s.cfg.cycles.opcode (Instr.store16 r m).opcode + m.addend s.cfg)) := by
  have hstore := store16_of_addresses r h
  rw [← h.myCfg] at hhigh hlow
  rw [hv, op_bind_ok (memWrite16_ok hhigh hlow), modifyCore_apply] at hstore
  rw [exec_store16,
    perform_ok_of_cfg m.addend hstore (by rw [State.modCore_cfg, State.stored_cfg, State.stored_cfg, h.cfg])]
  simp only [CC.logic16_eq]

theorem exec_store16_rejectedHigh (r : Wide) {v : Word} (h : Addresses m s a t) (hv : t.core.get16 (wideReg r) = v)
    (hhigh : s.myCfg.rejects a (hiByte v) = true) :
    exec (Instr.store16 r m) s = .next (t.bankFault a (hiByte v)) := by
  have hstore := store16_of_addresses r h
  rw [← h.myCfg] at hhigh
  rw [hv, op_bind_error (memWrite16_rejected hhigh)] at hstore
  rw [exec_store16, perform_error hstore]

theorem exec_store16_rejectedLow (r : Wide) {v : Word} (h : Addresses m s a t) (hv : t.core.get16 (wideReg r) = v)
    (hhigh : s.myCfg.rejects a (hiByte v) = false) (hlow : s.myCfg.rejects (a + 1#16) (loByte v) = true) :
    exec (Instr.store16 r m) s = .next ((t.stored a (hiByte v)).bankFault (a + 1#16) (loByte v)) := by
  have hstore := store16_of_addresses r h
  rw [← h.myCfg] at hhigh hlow
  rw [hv, op_bind_error (memWrite16_rejectedLow hhigh hlow)] at hstore
  rw [exec_store16, perform_error hstore]

/-! ### The frame of a store -/

theorem State.KeepsBut.mono (h : s.KeepsBut t as) (hsub : as ⊆ bs) : s.KeepsBut t bs := by
  intro b x hout
  refine h b x fun hb => ?_
  obtain ⟨haddr, hbank⟩ := hout hb
  exact ⟨fun a ha => haddr a (hsub ha), fun hin a ha => hbank hin a (hsub ha)⟩

/-- Registers, flags and cycles are no bytes of memory. -/
theorem State.KeepsBut.modCore_tick (h : s.KeepsBut t as) (f : Core → Core) (n : Nat) :
    s.KeepsBut ((t.modCore f).tick n) as := by
  intro b x hout
  rw [State.tick_peek, State.modCore_peek, h b x hout]

theorem Addresses.keepsBut_stored (h : Addresses m s a t) (v : Byte) : s.KeepsBut (t.stored a v) [a] :=
  h.keepsBut.trans (Machine.keepsBut_stored t a v) h.cfg h.active

theorem Addresses.keepsBut_stored_stored (h : Addresses m s a t) (a' : Word) (v v' : Byte) :
    s.KeepsBut ((t.stored a v).stored a' v') [a, a'] :=
  (h.keepsBut_stored v).trans (Machine.keepsBut_stored _ a' v') ((t.stored_cfg a v).trans h.cfg)
    ((t.stored_active a v).trans h.active)

/-- Taken or rejected, the byte written is the only one that changes. -/
theorem exec_store8_keepsBut (r : Acc) (h : Addresses m s a t) (hexec : exec (Instr.store8 r m) s = .next u) :
    s.KeepsBut u [a] := by
  obtain ⟨v, hv⟩ : ∃ v, t.core.acc r = v := ⟨_, rfl⟩
  have hkeeps := h.keepsBut_stored v
  cases hbyte : s.myCfg.rejects a v with
  | false =>
    rw [exec_store8_accepted r h hv hbyte] at hexec
    cases hexec
    exact hkeeps.modCore_tick _ _
  | true =>
    rw [exec_store8_rejected r h hv hbyte, ← State.stored_bankFault (by rwa [h.myCfg])] at hexec
    cases hexec
    exact hkeeps

/-- Taken, or rejected at its first or its second byte, a word leaves every byte but its two. -/
theorem exec_store16_keepsBut (r : Wide) (h : Addresses m s a t) (hexec : exec (Instr.store16 r m) s = .next u) :
    s.KeepsBut u [a, a + 1#16] := by
  obtain ⟨v, hv⟩ : ∃ v, t.core.get16 (wideReg r) = v := ⟨_, rfl⟩
  have hboth := h.keepsBut_stored_stored (a + 1#16) (hiByte v) (loByte v)
  cases hhigh : s.myCfg.rejects a (hiByte v) with
  | true =>
    rw [exec_store16_rejectedHigh r h hv hhigh, ← State.stored_bankFault (by rwa [h.myCfg])] at hexec
    cases hexec
    exact (h.keepsBut_stored _).mono (List.subset_append_left [a] [a + 1#16])
  | false =>
    cases hlow : s.myCfg.rejects (a + 1#16) (loByte v) with
    | false =>
      rw [exec_store16_accepted r h hv hhigh hlow] at hexec
      cases hexec
      exact hboth.modCore_tick _ _
    | true =>
      rw [exec_store16_rejectedLow r h hv hhigh hlow,
        ← State.stored_bankFault (by rwa [State.stored_myCfg, h.myCfg])] at hexec
      cases hexec
      exact hboth

end

end Sys2Proof.Machine

namespace Sys2Proof

open Machine

/-- Settles O21: what is answered in every state is, outside the hardware window, what stands in memory. -/
theorem operandReads : Obligations.OperandReads :=
  ⟨fun s m => addresses_exists m s, fun s a => readsByte_exists a s, fun s src => reads8_exists src s,
    fun s src => reads16_exists src s⟩

/-- Settles O22: the operand read, then the register and its flags. -/
theorem loads : Obligations.Loads := by
  refine ⟨fun r src s => ?_, fun r src s => ?_⟩
  · intro key
    have hkey : (Instr.bin8 .ld r src).opcode = key := by cases r <;> rcases src with _ | (_ | _ | _) <;> rfl
    obtain ⟨m, t, hreads⟩ := reads8_exists src s
    refine ⟨hkey, m, t, hreads, ?_⟩
    rw [exec_bin8_of_reads .ld r hreads, Bin8.apply_ld, hkey]
  · intro key
    have hkey : (Instr.load16 r src).opcode = key := by cases r <;> rcases src with _ | (_ | _ | _) <;> rfl
    obtain ⟨m, t, hreads⟩ := reads16_exists src s
    refine ⟨hkey, m, t, hreads, ?_⟩
    rw [exec_load16_of_reads r hreads, hkey]

/-- Settles O23: each byte is written or ends the step, and nothing else stores. -/
theorem stores : Obligations.Stores := by
  refine ⟨fun r m s => ?_, fun r m s => ?_⟩
  · intro key
    have hkey : (Instr.store8 r m).opcode = key := by cases r <;> cases m <;> rfl
    obtain ⟨a, t, haddr⟩ := addresses_exists m s
    refine ⟨hkey, a, t, haddr, ?_⟩
    rw [← hkey]
    exact ⟨exec_store8_accepted r haddr rfl, exec_store8_rejected r haddr rfl, fun _ => exec_store8_keepsBut r haddr⟩
  · intro key
    have hkey : (Instr.store16 r m).opcode = key := by cases r <;> cases m <;> rfl
    obtain ⟨a, t, haddr⟩ := addresses_exists m s
    refine ⟨hkey, a, t, haddr, ?_⟩
    rw [← hkey]
    exact ⟨exec_store16_accepted r haddr rfl, exec_store16_rejectedHigh r haddr rfl,
      exec_store16_rejectedLow r haddr rfl, fun _ => exec_store16_keepsBut r haddr⟩

/-- Settles O24: the address computed, then the register and Z. -/
theorem loadEffectiveAddress : Obligations.LoadEffectiveAddress := by
  intro r p s key
  have hkey : (Instr.lea r p).opcode = key := by cases r <;> rfl
  obtain ⟨a, t, haddr⟩ := addresses_exists (.idx p) s
  refine ⟨hkey, a, t, haddr, ?_⟩
  rw [exec_lea_of_addresses r haddr, hkey]

end Sys2Proof
end

section
/-! The ALU said in integers: a sum or difference wraps at most once, hence V, and with it each flag of `add8`, `sub8`,
`add16` and `sub16`. -/

namespace Sys2Proof.Machine

/-! ### Sums and differences that wrap -/

section
variable {w : Nat} (a b : BitVec w) (k : Bool)

/-- A sum of two words and a carry wraps at most once. -/
theorem ofNat_sum_toNat {t : Nat} (ht : t = a.toNat + b.toNat + k.toNat) :
    (BitVec.ofNat w t).toNat = t ∨ (BitVec.ofNat w t).toNat + 2 ^ w = t := by
  have ha := a.isLt
  have hb := b.isLt
  have hk := k.toNat_le
  rw [BitVec.toNat_ofNat]
  rcases Nat.lt_or_ge t (2 ^ w) with hlt | hge
  · exact .inl (Nat.mod_eq_of_lt hlt)
  · rw [Nat.mod_eq_sub_mod hge, Nat.mod_eq_of_lt (by omega)]
    omega

/-- A difference of two words and a borrow wraps at most once. -/
theorem ofInt_diff_toNat {t : Int} (ht : t = (a.toNat : Int) - b.toNat - k.toNat) :
    ((BitVec.ofInt w t).toNat : Int) = t ∨ ((BitVec.ofInt w t).toNat : Int) = t + (2 ^ w : Nat) := by
  have ha := a.isLt
  have hb := b.isLt
  have hk := k.toNat_le
  rw [BitVec.toNat_ofInt, Int.toNat_of_nonneg (Int.emod_nonneg _ (by omega))]
  rcases Int.lt_or_le t 0 with hneg | hnonneg
  · rw [← Int.add_emod_right, Int.emod_eq_of_lt (by omega) (by omega)]
    exact .inr rfl
  · exact .inl (Int.emod_eq_of_lt hnonneg (by omega))

/-- The signed reading of a word, in half its range. -/
theorem toInt_wraps (hw : 0 < w) : 2 ^ w = 2 * 2 ^ (w - 1) ∧
    (a.toNat < 2 ^ (w - 1) ∧ a.toInt = a.toNat ∨
      2 ^ (w - 1) ≤ a.toNat ∧ a.toInt = (a.toNat : Int) - 2 * (2 ^ (w - 1) : Nat)) := by
  have hhalf : 2 ^ w = 2 * 2 ^ (w - 1) := by rw [← Nat.pow_succ', Nat.succ_eq_add_one, Nat.sub_add_cancel hw]
  rw [BitVec.toInt_eq_toNat_cond]
  split <;> omega

/-- V after an addition (R200, R202): the operands have one sign and the result the other exactly when the signed sum
does not fit. -/
theorem msb_and_of_sum (hw : 0 < w) {t : Nat} (ht : t = a.toNat + b.toNat + k.toNat) :
    ((a ^^^ BitVec.ofNat w t) &&& (b ^^^ BitVec.ofNat w t)).msb =
      decide (a.toInt + b.toInt + k.toNat < -(2 ^ (w - 1) : Nat) ∨
        (2 ^ (w - 1) : Nat) ≤ a.toInt + b.toInt + k.toNat) := by
  have ha := a.isLt
  have hb := b.isLt
  have hr := (BitVec.ofNat w t).isLt
  have hwrap := ofNat_sum_toNat a b k ht
  have hk := k.toNat_le
  obtain ⟨hhalf, hsa⟩ := toInt_wraps a hw
  obtain ⟨-, hsb⟩ := toInt_wraps b hw
  rw [BitVec.msb_and, BitVec.msb_xor, BitVec.msb_xor, Bool.eq_iff_iff]
  simp only [BitVec.msb_eq_decide, Bool.and_eq_true, bne_iff_ne, ne_eq, decide_eq_decide, decide_eq_true_eq]
  omega

/-- V after a subtraction (R201, R203): the operands have different signs and the result's is not the minuend's exactly
when the signed difference does not fit. -/
theorem msb_and_of_diff (hw : 0 < w) {t : Int} (ht : t = (a.toNat : Int) - b.toNat - k.toNat) :
    ((a ^^^ b) &&& (a ^^^ BitVec.ofInt w t)).msb =
      decide (a.toInt - b.toInt - k.toNat < -(2 ^ (w - 1) : Nat) ∨
        (2 ^ (w - 1) : Nat) ≤ a.toInt - b.toInt - k.toNat) := by
  have ha := a.isLt
  have hb := b.isLt
  have hr := (BitVec.ofInt w t).isLt
  have hwrap := ofInt_diff_toNat a b k ht
  have hk := k.toNat_le
  obtain ⟨hhalf, hsa⟩ := toInt_wraps a hw
  obtain ⟨-, hsb⟩ := toInt_wraps b hw
  rw [BitVec.msb_and, BitVec.msb_xor, BitVec.msb_xor, Bool.eq_iff_iff]
  simp only [BitVec.msb_eq_decide, Bool.and_eq_true, bne_iff_ne, ne_eq, decide_eq_decide, decide_eq_true_eq]
  omega

end

/-- H after an addition (R200): the operands' bits 4 cancel against the result's and leave the carry out of bit 3. -/
theorem getLsbD_four_of_sum (a b : Byte) (k : Bool) :
    (a ^^^ b ^^^ BitVec.ofNat 8 (a.toNat + b.toNat + k.toNat)).getLsbD 4 =
      decide (16 ≤ a.toNat % 16 + b.toNat % 16 + k.toNat) := by
  have hsum : BitVec.ofNat 8 (a.toNat + b.toNat + k.toNat) = a + b + (BitVec.ofBool k).setWidth 8 :=
    BitVec.eq_of_toNat_eq (by simp [BitVec.toNat_add])
  rw [hsum, BitVec.getLsbD_xor, BitVec.getLsbD_xor, BitVec.getLsbD_add_add_bool (by decide),
    ← Bool.xor_assoc (a.getLsbD 4), ← Bool.xor_assoc, Bool.xor_self, Bool.false_xor]
  rfl

/-! ### The ALU in numbers -/

/-- `add8` (R200), its flags said in integers. -/
theorem add8_eq (a b : Byte) (k : Bool) : add8 a b k =
    { r := BitVec.ofNat 8 (a.toNat + b.toNat + k.toNat)
      h := decide (16 ≤ a.toNat % 16 + b.toNat % 16 + k.toNat)
      n := decide (128 ≤ (a.toNat + b.toNat + k.toNat) % 256)
      z := decide ((a.toNat + b.toNat + k.toNat) % 256 = 0)
      v := decide (a.toInt + b.toInt + k.toNat < -128 ∨ 127 < a.toInt + b.toInt + k.toNat)
      c := decide (256 ≤ a.toNat + b.toNat + k.toNat) } := by
  simp only [add8, Alu8.mk.injEq, true_and]
  refine ⟨getLsbD_four_of_sum a b k, ?_, ?_, ?_, rfl⟩
  · rw [getLsbD_seven, BitVec.toNat_ofNat]
  · rw [decide_eq_zero_toNat, BitVec.toNat_ofNat]
  · exact (msb_and_of_sum a b k (by decide) rfl).trans (decide_eq_decide.mpr (by omega))

/-- `sub8` (R201), its flags said in integers. -/
theorem sub8_eq (a b : Byte) (k : Bool) : sub8 a b k =
    { r := BitVec.ofInt 8 ((a.toNat : Int) - b.toNat - k.toNat)
      h := false
      n := decide (128 ≤ ((a.toNat : Int) - b.toNat - k.toNat) % 256)
      z := decide (((a.toNat : Int) - b.toNat - k.toNat) % 256 = 0)
      v := decide (a.toInt - b.toInt - k.toNat < -128 ∨ 127 < a.toInt - b.toInt - k.toNat)
      c := decide (a.toNat < b.toNat + k.toNat) } := by
  simp only [sub8, Alu8.mk.injEq, true_and]
  refine ⟨?_, ?_, ?_, ?_⟩
  · rw [getLsbD_seven, BitVec.toNat_ofInt]
    exact decide_eq_decide.mpr (by omega)
  · rw [decide_eq_zero_toNat, BitVec.toNat_ofInt]
    exact decide_eq_decide.mpr (by omega)
  · exact (msb_and_of_diff a b k (by decide) rfl).trans (decide_eq_decide.mpr (by omega))
  · exact decide_eq_decide.mpr (by omega)

/-- `add16` (R202), its flags said in integers. -/
theorem add16_eq (a b : Word) : add16 a b =
    { r := BitVec.ofNat 16 (a.toNat + b.toNat)
      n := decide (0x8000 ≤ (a.toNat + b.toNat) % 0x10000)
      z := decide ((a.toNat + b.toNat) % 0x10000 = 0)
      v := decide (a.toInt + b.toInt < -0x8000 ∨ 0x7FFF < a.toInt + b.toInt)
      c := decide (0x10000 ≤ a.toNat + b.toNat) } := by
  simp only [add16, Alu16.mk.injEq, true_and]
  refine ⟨?_, ?_, ?_, rfl⟩
  · rw [getLsbD_fifteen, BitVec.toNat_ofNat]
  · rw [decide_eq_zero_toNat, BitVec.toNat_ofNat]
  · exact (msb_and_of_sum a b false (by decide) rfl).trans
      (decide_eq_decide.mpr (by simp only [Bool.toNat_false]; omega))

/-- `sub16` (R203), its flags said in integers. -/
theorem sub16_eq (a b : Word) : sub16 a b =
    { r := BitVec.ofInt 16 ((a.toNat : Int) - b.toNat)
      n := decide (0x8000 ≤ ((a.toNat : Int) - b.toNat) % 0x10000)
      z := decide (((a.toNat : Int) - b.toNat) % 0x10000 = 0)
      v := decide (a.toInt - b.toInt < -0x8000 ∨ 0x7FFF < a.toInt - b.toInt)
      c := decide (a.toNat < b.toNat) } := by
  simp only [sub16, Alu16.mk.injEq, true_and]
  refine ⟨?_, ?_, ?_, ?_⟩
  · rw [getLsbD_fifteen, BitVec.toNat_ofInt]
    exact decide_eq_decide.mpr (by omega)
  · rw [decide_eq_zero_toNat, BitVec.toNat_ofInt]
    exact decide_eq_decide.mpr (by omega)
  · exact (msb_and_of_diff a b false (by decide) (by simp)).trans
      (decide_eq_decide.mpr (by simp only [Bool.toNat_false]; omega))
  · exact decide_eq_decide.mpr (by omega)

/-- Z after a compare (R216): the difference of two words is a multiple of 65536 exactly when they are equal. -/
theorem diff_mod_eq_zero (a b : Word) : ((a.toNat : Int) - b.toNat) % 0x10000 = 0 ↔ a = b := by
  have ha := a.isLt
  have hb := b.isLt
  rw [BitVec.toNat_eq]
  omega

end Sys2Proof.Machine
end

section
/-! The arithmetic instructions: the change of the core that each of them is, its result and its flags said in
numbers. -/

namespace Sys2Proof.Machine

/-! ### Eight-bit addition, subtraction and comparison -/

/-- The accumulator and the flags after `ADD`, or `ADC` when the carry goes in (R204 to R207). -/
theorem Bin8.apply_addition (withCarry : Bool) (r : Acc) (m : Byte) (c : Core) :
    (if withCarry then Bin8.adc else .add).apply r m c =
      (c.setAcc r (add8 (c.acc r) m (withCarry && c.cc.c)).r).setCC
        (c.cc.ofAdd8 (add8 (c.acc r) m (withCarry && c.cc.c))) := by
  cases withCarry <;> rfl

/-- The name under which a subtraction asks for its free H (R201). -/
def subtractionHOp : Bin8 → HOp
  | .sub => .sub
  | .sbc => .sbc
  | _ => .cmp

/-- The accumulator, which `CMP` keeps, and the flags after `SUB`, `SBC` and `CMP` (R208 to R213). -/
theorem Bin8.apply_subtraction {o : Bin8} (ho : o = .sub ∨ o = .sbc ∨ o = .cmp) (r : Acc) (m : Byte) (c : Core) :
    o.apply r m c =
      (if o = .cmp then c else c.setAcc r (sub8 (c.acc r) m (decide (o = .sbc) && c.cc.c)).r).setCC
        (c.cc.ofSub8 (subtractionHOp o) (c.acc r) m (decide (o = .sbc) && c.cc.c)
          (sub8 (c.acc r) m (decide (o = .sbc) && c.cc.c))) := by
  rcases ho with rfl | rfl | rfl <;> rfl

/-! ### Sixteen-bit addition, subtraction and comparison -/

section
variable {s t : State} {src : Src16} {m : Word}

/-- An operation that reads a 16-bit operand and ends in one change of the core, framed by the cycles of its opcode and
operand. -/
theorem perform_operand16_modifyCore {opcode : Nat} (f : Word → Core → Core) (h : Reads16 src s m t) :
    perform opcode (fun u => src.addend u.cfg) (operand16 src >>= fun v => modifyCore (f v)) s =
      .next ((t.modCore (f m)).tick (s.cfg.cycles.opcode opcode + src.addend s.cfg)) := by
  have hcfg := h.cfg
  obtain ⟨hread, -, -⟩ := h
  rw [perform_ok_of_cfg src.addend (by rw [op_bind_ok hread, modifyCore_apply]) (by rw [State.modCore_cfg, hcfg])]

end

/-! ### One-operand operations -/

theorem append_toNat {w v : Nat} (x : BitVec w) (y : BitVec v) :
    (x ++ y).toNat = x.toNat * 2 ^ v + y.toNat := by
  rw [BitVec.toNat_append, Nat.shiftLeft_eq, Nat.mul_comm, ← Nat.two_pow_add_eq_or_of_lt y.isLt]

theorem getLsbD_six (v : Byte) : v.getLsbD 6 = decide (64 ≤ v.toNat % 128) := by
  rw [← BitVec.testBit_toNat, Nat.testBit_eq_decide_div_mod_eq]
  exact decide_eq_decide.mpr (by omega)

theorem getLsbD_zero (v : Byte) : v.getLsbD 0 = decide (v.toNat % 2 = 1) := by
  rw [← BitVec.testBit_toNat, Nat.testBit_zero]

/-- A bit shifted in from the left, as `ROR` and `ASR` do (42_logic_shift.md R277, R283). -/
theorem shiftedRight_eq (b : Bool) (m : Byte) :
    (BitVec.ofBool b ++ m.extractLsb' 1 7 : BitVec (1 + 7)) = BitVec.ofNat 8 (m.toNat / 2 + 128 * b.toNat) := by
  have hm := m.isLt
  have hb := b.toNat_le
  apply BitVec.eq_of_toNat_eq
  rw [append_toNat, BitVec.toNat_ofBool, BitVec.extractLsb'_toNat, BitVec.toNat_ofNat, Nat.shiftRight_eq_div_pow]
  omega

/-- A bit shifted in from the right, as `ROL` does (R286). -/
theorem shiftedLeft_eq (b : Bool) (m : Byte) :
    (m.extractLsb' 0 7 ++ BitVec.ofBool b : BitVec (7 + 1)) = BitVec.ofNat 8 (2 * m.toNat + b.toNat) := by
  have hb := b.toNat_le
  apply BitVec.eq_of_toNat_eq
  rw [append_toNat, BitVec.toNat_ofBool, BitVec.extractLsb'_toNat, BitVec.toNat_ofNat, Nat.shiftRight_eq_div_pow]
  omega

/-- Each result, said in the numbers the bits stand for. -/
theorem Un8.effect_fst (o : Un8) (cc : CC) (m : Byte) : (o.effect cc m).1 = o.result cc m := by
  have hm := m.isLt
  cases o with
  | ror => exact (shiftedRight_eq cc.c m).symm
  | rol => exact (shiftedLeft_eq cc.c m).symm
  | asr => rw [Un8.result, shiftedRight_eq, getLsbD_seven, Un8.effect]
  | tst => rfl
  | clr => rfl
  | neg =>
    rw [Un8.result, sub8_eq]
    apply BitVec.eq_of_toNat_eq
    simp only [Un8.effect, BitVec.toNat_ofNat, BitVec.toNat_ofInt, Bool.toNat_false]
    omega
  | com =>
    apply BitVec.eq_of_toNat_eq
    simp only [Un8.effect, Un8.result, BitVec.toNat_ofNat, BitVec.toNat_not]
    omega
  | lsr =>
    apply BitVec.eq_of_toNat_eq
    simp only [Un8.effect, Un8.result, BitVec.toNat_ofNat, BitVec.toNat_ushiftRight, Nat.shiftRight_eq_div_pow]
    omega
  | asl =>
    apply BitVec.eq_of_toNat_eq
    simp only [Un8.effect, Un8.result, BitVec.toNat_ofNat, BitVec.toNat_shiftLeft, Nat.shiftLeft_eq]
    omega
  | dec =>
    apply BitVec.eq_of_toNat_eq
    simp only [Un8.effect, Un8.result, BitVec.toNat_ofNat, BitVec.toNat_sub]
    omega
  | inc =>
    apply BitVec.eq_of_toNat_eq
    simp only [Un8.effect, Un8.result, BitVec.toNat_ofNat, BitVec.toNat_add]

/-- The flags of `NEG` (41_arithmetic.md R221): those of the difference of 0 and the operand. -/
theorem sub8_zero_flags (m : Byte) :
    (sub8 0x00#8 m false).n = decide (128 ≤ (sub8 0x00#8 m false).r.toNat) ∧
    (sub8 0x00#8 m false).z = decide ((sub8 0x00#8 m false).r.toNat = 0) ∧
    (sub8 0x00#8 m false).v = decide (m.toNat = 128) ∧
    (sub8 0x00#8 m false).c = decide (m.toNat ≠ 0) := by
  refine ⟨getLsbD_seven _, decide_eq_zero_toNat _, ?_⟩
  have hm := m.isLt
  rw [sub8_eq]
  simp only [BitVec.toInt_eq_toNat_cond m, BitVec.toInt_zero, BitVec.toNat_zero, Bool.toNat_false]
  exact ⟨decide_eq_decide.mpr (by omega), decide_eq_decide.mpr (by omega)⟩

/-- Each operation's flags, said in the numbers the bits stand for. -/
theorem Un8.effect_snd (o : Un8) (cc : CC) (m : Byte) : (o.effect cc m).2 = o.flags cc m := by
  have hresult := fun k => (Un8.effect_fst o k m).symm
  cases o with
  | clr => rfl
  | neg =>
    obtain ⟨hn, hz, hv, hc⟩ := sub8_zero_flags m
    have hdiff : (sub8 0x00#8 m false).r = (Un8.neg.effect cc m).1 := hresult cc
    simp only [Un8.flags, Un8.flagsAfter, hn, hz, hv, hc, hdiff]
    rfl
  | com | lsr | ror | asr | asl | rol | dec | inc | tst =>
    simp only [Un8.flags, Un8.flagsAfter, hresult, getLsbD_seven, getLsbD_six, getLsbD_zero, BitVec.toNat_eq]
    rfl

/-! ### Multiplication, decimal correction, sign extension -/

theorem hiByte_eq_ofNat (p : Word) : hiByte p = BitVec.ofNat 8 (p.toNat / 256) := by
  rw [← hiByte_toNat, BitVec.ofNat_toNat, BitVec.setWidth_eq]

theorem loByte_eq_ofNat (p : Word) : loByte p = BitVec.ofNat 8 p.toNat :=
  BitVec.eq_of_toNat_eq (by rw [loByte_toNat, BitVec.toNat_ofNat])

theorem word_getLsbD_seven (p : Word) : p.getLsbD 7 = decide (128 ≤ p.toNat % 256) := by
  rw [← BitVec.testBit_toNat, Nat.testBit_eq_decide_div_mod_eq]
  exact decide_eq_decide.mpr (by omega)

/-- The product of two bytes fits 16 bits. -/
theorem product_toNat (a b : Byte) : (BitVec.ofNat 16 (a.toNat * b.toNat)).toNat = a.toNat * b.toNat := by
  have hfits : a.toNat * b.toNat < 2 ^ 16 := lt_of_lt_of_eq (Nat.mul_lt_mul'' a.isLt b.isLt) (by decide)
  rw [BitVec.toNat_ofNat, Nat.mod_eq_of_lt hfits]

theorem Core.mul_eq (c : Core) : c.mul =
    { c with
      a := BitVec.ofNat 8 (c.a.toNat * c.b.toNat / 256)
      b := BitVec.ofNat 8 (c.a.toNat * c.b.toNat)
      cc := { c.cc with
        z := decide (c.a.toNat * c.b.toNat = 0)
        c := decide (128 ≤ c.a.toNat * c.b.toNat % 256) } } := by
  simp only [Core.mul, hiByte_eq_ofNat, loByte_eq_ofNat, decide_eq_zero_toNat, word_getLsbD_seven, product_toNat]

/-- The correction of `DAA` (R237): its two digits share no bit, so that it is their sum. -/
theorem daaCorrection_toNat (a : Byte) (cc : CC) : (daaCorrection a cc).toNat =
    (if 9 < a.toNat % 16 ∨ cc.h = true then 6 else 0) +
      (if 9 < a.toNat / 16 ∨ cc.c = true ∨ (8 < a.toNat / 16 ∧ 9 < a.toNat % 16) then 0x60 else 0) := by
  simp only [daaCorrection, Bool.or_eq_true, Bool.and_eq_true, decide_eq_true_eq, gt_iff_lt, or_assoc]
  split <;> split <;> rfl

theorem Core.daa_eq (c : Core) : c.daa =
    let t := c.a.toNat + (daaCorrection c.a c.cc).toNat
    { c with
      a := BitVec.ofNat 8 t
      cc := { c.cc with
        n := decide (128 ≤ t % 256)
        z := decide (t % 256 = 0)
        v := Config.undefVDaa c.a c.cc.toByte
        c := c.cc.c || decide (256 ≤ t) } } := by
  simp only [Core.daa, getLsbD_seven, decide_eq_zero_toNat, BitVec.toNat_ofNat]
  rfl

theorem Core.sex_eq (c : Core) : c.sex =
    { c with
      a := if 128 ≤ c.b.toNat then 0xFF#8 else 0x00#8
      cc := { c.cc with n := decide (128 ≤ c.b.toNat), z := decide (c.b.toNat = 0) } } := by
  simp only [Core.sex, getLsbD_seven, decide_eq_zero_toNat, decide_eq_true_eq]

theorem Core.abx_eq (c : Core) : c.abx = { c with x := BitVec.ofNat 16 (c.x.toNat + c.b.toNat) } := by
  have hsum : c.x + zext8 c.b = BitVec.ofNat 16 (c.x.toNat + c.b.toNat) := by
    apply BitVec.eq_of_toNat_eq
    have hb := c.b.isLt
    rw [zext8, BitVec.toNat_add, BitVec.toNat_setWidth, BitVec.toNat_ofNat]
    omega
  rw [Core.abx, hsum]

/-- An inherent instruction that is one change of the core: its cycles are those of its opcode. -/
theorem perform_modifyCore (opcode : Nat) (f : Core → Core) (s : State) :
    perform opcode noAddend (modifyCore f) s = .next ((s.modCore f).tick (s.cfg.cycles.opcode opcode)) := by
  rw [perform_ok (modifyCore_apply f s), State.modCore_cfg]
  rfl

end Sys2Proof.Machine

namespace Sys2Proof

open Machine

/-- Settles O25: `add8`, said in integers, of the accumulator and the operand read. -/
theorem add8 : Obligations.Add8 := by
  intro withCarry r src s i key
  have hkey : i.opcode = key := by cases withCarry <;> cases r <;> rcases src with _ | (_ | _ | _) <;> rfl
  obtain ⟨m, t, hreads⟩ := reads8_exists src s
  refine ⟨hkey, m, t, hreads, ?_⟩
  rw [exec_bin8_of_reads _ r hreads, hkey, funext (Bin8.apply_addition withCarry r m)]
  simp only [add8_eq, CC.ofAdd8]

/-- Settles O26: `sub8`, said in integers, of the accumulator and the operand read. -/
theorem sub8 : Obligations.Sub8 := by
  intro o r src s ho key
  have hkey : (Instr.bin8 o r src).opcode = key := by
    rcases ho with rfl | rfl | rfl <;> cases r <;> rcases src with _ | (_ | _ | _) <;> rfl
  obtain ⟨m, t, hreads⟩ := reads8_exists src s
  refine ⟨hkey, m, t, hreads, ?_⟩
  rw [exec_bin8_of_reads _ r hreads, hkey, funext (Bin8.apply_subtraction ho r m)]
  simp only [sub8_eq, CC.ofSub8]
  rcases ho with rfl | rfl | rfl <;> rfl

/-- Settles O28: `add16` and `sub16`, said in integers, of `D` and the operand read. -/
theorem addSubD : Obligations.AddSubD := by
  intro src s
  have hadd : (Instr.addD src).opcode = 0xC3 + src.column := by rcases src with _ | (_ | _ | _) <;> rfl
  have hsub : (Instr.subD src).opcode = 0x83 + src.column := by rcases src with _ | (_ | _ | _) <;> rfl
  obtain ⟨m, t, hreads⟩ := reads16_exists src s
  refine ⟨hadd, hsub, m, t, hreads, ?_, ?_⟩
  · rw [exec_addD, addD, perform_operand16_modifyCore _ hreads, hadd]
    simp only [add16_eq, CC.of16]
  · rw [exec_subD, subD, perform_operand16_modifyCore _ hreads, hsub]
    simp only [sub16_eq, CC.of16]

/-- Settles O29: the flags of `sub16`, said in integers, of the register and the operand read. -/
theorem compare16 : Obligations.Compare16 := by
  intro r src s key
  have hkey : (Instr.cmp16 r src).opcode = key := by cases r <;> rcases src with _ | (_ | _ | _) <;> rfl
  obtain ⟨m, t, hreads⟩ := reads16_exists src s
  refine ⟨hkey, m, t, hreads, ?_⟩
  rw [exec_cmp16, cmp16, perform_operand16_modifyCore _ hreads, hkey]
  simp only [sub16_eq, CC.of16, diff_mod_eq_zero]

/-- Settles O30: the result and the flags in numbers are the model's. -/
theorem unaryAccumulator : Obligations.UnaryAccumulator := by
  intro o r s key
  have hkey : (Instr.un8Acc o r).opcode = key := by cases o <;> cases r <;> rfl
  refine ⟨hkey, ?_⟩
  rw [exec_un8Acc, un8Acc, perform_modifyCore, hkey]
  simp only [Un8.effect_fst, Un8.effect_snd]

/-- Settles O32: each instruction is one change of the core, said in numbers. -/
theorem mulDaaSexAbx : Obligations.MulDaaSexAbx := by
  intro s
  have hmul : exec .mul s = perform 0x3D noAddend (modifyCore Core.mul) s := rfl
  have hdaa : exec .daa s = perform 0x19 noAddend (modifyCore Core.daa) s := rfl
  have hsex : exec .sex s = perform 0x1D noAddend (modifyCore Core.sex) s := rfl
  have habx : exec .abx s = perform 0x3A noAddend (modifyCore Core.abx) s := rfl
  refine ⟨?_, ?_, ?_, ?_, rfl, rfl, rfl, rfl⟩
  · rw [hmul, perform_modifyCore, funext Core.mul_eq]
  · rw [hdaa, perform_modifyCore, funext Core.daa_eq]
    simp only [daaCorrection_toNat]
  · rw [hsex, perform_modifyCore, funext Core.sex_eq]
  · rw [habx, perform_modifyCore, funext Core.abx_eq]

end Sys2Proof
end

section
/-! A bus write and the flags: a write may assert lines of either core, and no line is a flag. -/

namespace Sys2Proof.Machine

set_option Elab.async false

/-- Every core has the flags it had. -/
def State.SameFlags (s t : State) : Prop := ∀ b, (t.coreOf b).cc = (s.coreOf b).cc

section
variable {s t u : State}

theorem State.SameFlags.refl (s : State) : s.SameFlags s := fun _ => rfl

theorem State.SameFlags.trans (hst : s.SameFlags t) (htu : t.SameFlags u) : s.SameFlags u :=
  fun b => (htu b).trans (hst b)

/-- Whatever leaves both boards leaves their cores' flags. -/
theorem State.SameFlags.of_boards (main : t.main = s.main := by rfl) (sound : t.sound = s.sound := by rfl) :
    s.SameFlags t := by
  intro b
  cases b
  · exact congrArg (·.core.cc) main
  · exact congrArg (·.core.cc) sound

/-- The core that steps is the same one, so its flags are. -/
theorem State.SameFlags.core (h : s.SameFlags t) (hactive : t.active = s.active) : t.core.cc = s.core.cc := by
  rw [State.core, hactive]
  exact h s.active

end

/-! ### Lines -/

theorem State.sameFlags_modCoreOf (s : State) (b : Board) {f : Core → Core} (hf : ∀ c, (f c).cc = c.cc) :
    s.SameFlags (s.modCoreOf b f) := by
  intro b'
  rw [State.modCoreOf]
  by_cases hb : b' = b
  · rw [hb, State.setCoreOf_coreOf, hf]
  · rw [State.setCoreOf_coreOf_other _ _ hb]

/-- Assertions of lines (60_exceptions.md R408, R409): whatever the mask, it stays. -/
theorem State.sameFlags_irq (s : State) (b : Board) : s.SameFlags (s.irq b) := s.sameFlags_modCoreOf b fun _ => rfl

theorem State.sameFlags_firq (s : State) (b : Board) : s.SameFlags (s.firq b) := s.sameFlags_modCoreOf b fun _ => rfl

theorem State.sameFlags_devEffect (s : State) (e : DevEffect) : s.SameFlags (s.devEffect e) := by
  cases e with
  | irq b => exact s.sameFlags_irq b
  | firq b => exact s.sameFlags_firq b
  | periodicIrqEnable on => exact .of_boards

theorem State.sameFlags_devEffects (s : State) (es : List DevEffect) : s.SameFlags (s.devEffects es) := by
  induction es generalizing s with
  | nil => exact .refl s
  | cons e es ih => exact (s.sameFlags_devEffect e).trans (ih _)

theorem State.sameFlags_devCall (s : State) (e : DevEvent) : s.SameFlags (s.devCall e) :=
  State.SameFlags.trans (t := s.record e) .of_boards (State.sameFlags_devEffects _ _)

/-! ### Writes -/

theorem State.sameFlags_portWrite (s : State) (b : Board) (off : Nat) (v : Byte) :
    s.SameFlags (s.portWrite b off v) := by
  unfold State.portWrite
  split
  · split
    · exact s.sameFlags_devCall _
    · exact (s.sameFlags_devCall _).trans .of_boards
  · exact .of_boards

theorem State.sameFlags_setShadow (s : State) (b : Board) (off : Nat) (v : Byte) : s.SameFlags (s.setShadow b off v) :=
  fun _ => congrArg Core.cc (State.setShadow_coreOf ..)

theorem sameFlags_selectBank (b : Board) (v : Byte) (s : State) : s.SameFlags (after (selectBank b v s)) := by
  unfold selectBank
  split
  · exact fun _ => congrArg Core.cc (State.setBank_coreOf ..)
  · exact .of_boards

/-- A register write, whatever its owner does (20_memory.md R84 to R86). -/
theorem sameFlags_hwWrite (b : Board) (off : Nat) (v : Byte) (s : State) :
    s.SameFlags (after (hwWrite b off v s)) := by
  unfold hwWrite
  refine (s.sameFlags_setShadow b off v).trans ?_
  dsimp only
  split
  · exact sameFlags_selectBank b v _
  · split
    · exact .of_boards
    · split
      · exact State.SameFlags.trans .of_boards (State.sameFlags_irq _ .sound)
      · exact State.sameFlags_portWrite _ _ _ _

theorem State.sameFlags_stored (s : State) (a : Word) (v : Byte) : s.SameFlags (s.stored a v) := by
  by_cases hram : a.toNat < s.myCfg.ramEnd
  · rw [State.stored_ram hram]
    exact fun _ => congrArg Core.cc (State.setRam_coreOf ..)
  · by_cases hhw : a.toNat < s.myCfg.hwEnd
    · rw [State.stored_hw (Nat.le_of_not_lt hram) hhw]
      exact sameFlags_hwWrite _ _ v s
    · rw [State.stored_outside (Nat.le_of_not_lt hram) (Nat.le_of_not_lt hhw)]
      exact .refl s

@[simp] theorem State.stored_core_cc (s : State) (a : Word) (v : Byte) : (s.stored a v).core.cc = s.core.cc :=
  (s.sameFlags_stored a v).core (s.stored_active a v)

end Sys2Proof.Machine
end

section
/-! The logic, condition-code and shift instructions: the bitwise operations, a memory byte read and written back, and
the mask applied to the flags. -/

namespace Sys2Proof.Machine

set_option Elab.async false

/-! ### Bitwise operations -/

/-- An operation of two bytes whose flags are those of `logic8` (R260) and whose result `BIT` alone discards. -/
def IsBitwise (o : Bin8) (f : Byte → Byte → Byte) : Prop :=
  ∀ r m c, o.apply r m c =
    (if o = .bit then c else c.setAcc r (f (c.acc r) m)).setCC (c.cc.logic8 (f (c.acc r) m))

theorem isBitwise_and : IsBitwise .and (· &&& ·) := fun _ _ _ => rfl

theorem isBitwise_or : IsBitwise .or (· ||| ·) := fun _ _ _ => rfl

theorem isBitwise_eor : IsBitwise .eor (· ^^^ ·) := fun _ _ _ => rfl

theorem isBitwise_bit : IsBitwise .bit (· &&& ·) := fun _ _ _ => rfl

/-! ### A one-operand operation on a memory byte: its parts -/

/-- The flags written before the byte is (41_arithmetic.md R223): H by `NEG`, and no other. -/
theorem Un8.flagsBefore_eq (o : Un8) (cc : CC) (v : Byte) : o.flagsBefore cc v =
    { cc with h := if o = .neg then Config.undefH .neg 0x00#8 v false cc.h else cc.h } := by
  cases o <;> rfl

/-- The one operation that writes a flag first, `NEG`, has a result that no flag enters. -/
theorem Un8.result_flagsBefore (o : Un8) (cc : CC) (v : Byte) :
    o.result (o.flagsBefore cc v) v = (o.effect cc v).1 := by
  rw [Un8.effect_fst]
  cases o <;> rfl

theorem Un8.flagsAfter_flagsBefore (o : Un8) (cc : CC) (v : Byte) :
    o.flagsAfter (o.flagsBefore cc v) v = (o.effect cc v).2 := by
  rw [Un8.effect_snd, Un8.flags]

theorem Un8.writes_eq_true {o : Un8} (ho : o ≠ .tst) : o.writes = true := by
  cases o with
  | tst => exact absurd rfl ho
  | _ => rfl

/-- The state in which a one-operand operation on the byte `v`, read in `u`, writes its result. -/
def State.beforeWrite (u : State) (o : Un8) (v : Byte) : State :=
  u.modCore fun c => c.setCC (o.flagsBefore c.cc v)

section
variable (u : State) (o : Un8) (v : Byte)

theorem State.beforeWrite_eq : u.beforeWrite o v = u.modCore fun c =>
    { c with cc := { c.cc with h := if o = .neg then Config.undefH .neg 0x00#8 v false c.cc.h else c.cc.h } } := by
  simp only [State.beforeWrite, Un8.flagsBefore_eq]
  rfl

@[simp] theorem State.beforeWrite_cfg : (u.beforeWrite o v).cfg = u.cfg := u.modCore_cfg _

@[simp] theorem State.beforeWrite_active : (u.beforeWrite o v).active = u.active := u.modCore_active _

@[simp] theorem State.beforeWrite_core_cc : (u.beforeWrite o v).core.cc = o.flagsBefore u.core.cc v := by
  rw [State.beforeWrite, State.modCore_core, Core.setCC_cc]

end

/-- The state in which the flags are written: after the write of the result, which `TST` does not make. -/
def State.afterWrite (u : State) (o : Un8) (a : Word) (v : Byte) : State :=
  if o = .tst then u.beforeWrite o v else (u.beforeWrite o v).stored a (o.effect u.core.cc v).1

section
variable (u : State) (o : Un8) (a : Word) (v : Byte)

@[simp] theorem State.afterWrite_tst : u.afterWrite .tst a v = u.beforeWrite .tst v := rfl

theorem State.afterWrite_of_ne {o : Un8} (ho : o ≠ .tst) :
    u.afterWrite o a v = (u.beforeWrite o v).stored a (o.effect u.core.cc v).1 := if_neg ho

@[simp] theorem State.afterWrite_cfg : (u.afterWrite o a v).cfg = u.cfg := by
  unfold State.afterWrite
  split
  · exact u.beforeWrite_cfg o v
  · rw [State.stored_cfg, State.beforeWrite_cfg]

/-- The write of the result touches no flag. -/
@[simp] theorem State.afterWrite_core_cc : (u.afterWrite o a v).core.cc = o.flagsBefore u.core.cc v := by
  unfold State.afterWrite
  split
  · exact u.beforeWrite_core_cc o v
  · rw [State.stored_core_cc, State.beforeWrite_core_cc]

/-- The flags written last are those of the whole operation. -/
theorem State.afterWrite_modCore_flagsAfter : ((u.afterWrite o a v).modCore fun c => c.setCC (o.flagsAfter c.cc v)) =
    (u.afterWrite o a v).modCore fun c => c.setCC (o.effect u.core.cc v).2 :=
  State.modCore_congr (by rw [State.afterWrite_core_cc, Un8.flagsAfter_flagsBefore])

end

/-! ### A one-operand operation on a memory byte: the whole -/

section
variable {o : Un8} {m : MemOp} {s t u w : State} {a : Word} {v : Byte}
variable (haddr : Addresses m s a t) (hread : ReadsByte a t v u)
include haddr hread

theorem beforeWrite_of_reads_cfg (o : Un8) : (u.beforeWrite o v).cfg = s.cfg := by
  obtain ⟨-, heffect, -⟩ := hread
  rw [State.beforeWrite_cfg, heffect.cfg, haddr.cfg]

theorem beforeWrite_of_reads_active (o : Un8) : (u.beforeWrite o v).active = s.active := by
  obtain ⟨-, heffect, -⟩ := hread
  rw [State.beforeWrite_active, heffect.active, haddr.active]

theorem beforeWrite_of_reads_myCfg (o : Un8) : (u.beforeWrite o v).myCfg = s.myCfg := by
  rw [State.myCfg, beforeWrite_of_reads_cfg haddr hread, beforeWrite_of_reads_active haddr hread, State.myCfg]

theorem keepsBut_beforeWrite_of_reads (o : Un8) : s.KeepsBut (u.beforeWrite o v) [] := by
  obtain ⟨-, heffect, -⟩ := hread
  have hbyte : t.KeepsBut (u.beforeWrite o v) [] :=
    .of_peek (fun b x => (u.modCore_peek _ b x).trans (heffect.peek b x)) []
  exact haddr.keepsBut.trans hbyte haddr.cfg haddr.active

/-- `TST` reads its byte and writes the flags (41_arithmetic.md R235). -/
theorem un8Mem_tst : un8Mem .tst m s =
    modifyCore (fun c => c.setCC (Un8.tst.flagsAfter c.cc v)) (u.beforeWrite .tst v) := by
  obtain ⟨hea, -, -⟩ := haddr
  obtain ⟨hbyte, -, -⟩ := hread
  rw [un8Mem, op_bind_ok hea, op_bind_ok hbyte]
  rfl

/-- Every other operation writes its result at the address it read (42_logic_shift.md R289). -/
theorem un8Mem_of_reads (ho : o ≠ .tst) : un8Mem o m s =
    (memWrite8 a (o.effect u.core.cc v).1 >>= fun _ => modifyCore fun c => c.setCC (o.flagsAfter c.cc v))
      (u.beforeWrite o v) := by
  obtain ⟨hea, -, -⟩ := haddr
  obtain ⟨hbyte, -, -⟩ := hread
  rw [un8Mem, op_bind_ok hea, op_bind_ok hbyte, modifyCore_bind, getCore_bind, if_pos (Un8.writes_eq_true ho),
    ← State.beforeWrite, State.beforeWrite_core_cc, Un8.result_flagsBefore]

theorem un8Mem_ok (htaken : o = .tst ∨ s.myCfg.rejects a (o.effect u.core.cc v).1 = false) : un8Mem o m s =
    .ok () ((u.afterWrite o a v).modCore fun c => c.setCC (o.effect u.core.cc v).2) := by
  rw [← State.afterWrite_modCore_flagsAfter]
  by_cases ho : o = .tst
  · subst ho
    rw [un8Mem_tst haddr hread, modifyCore_apply, State.afterWrite_tst]
  · have haccepts := htaken.resolve_left ho
    rw [← beforeWrite_of_reads_myCfg haddr hread o] at haccepts
    rw [un8Mem_of_reads haddr hread ho, op_bind_ok (memWrite8_ok haccepts), modifyCore_apply,
      State.afterWrite_of_ne _ _ _ ho]

theorem un8Mem_rejected (ho : o ≠ .tst) (hrejects : s.myCfg.rejects a (o.effect u.core.cc v).1 = true) :
    un8Mem o m s = .error () ((u.beforeWrite o v).bankFault a (o.effect u.core.cc v).1) := by
  rw [← beforeWrite_of_reads_myCfg haddr hread o] at hrejects
  rw [un8Mem_of_reads haddr hread ho, op_bind_error (memWrite8_bankFault hrejects)]

theorem exec_un8Mem_ok (htaken : o = .tst ∨ s.myCfg.rejects a (o.effect u.core.cc v).1 = false) :
    exec (Instr.un8Mem o m) s = .next (((u.afterWrite o a v).modCore fun c => c.setCC (o.effect u.core.cc v).2).tick
      (s.cfg.cycles.opcode (Instr.un8Mem o m).opcode + m.addend s.cfg)) := by
  have hcfg := beforeWrite_of_reads_cfg haddr hread o
  rw [State.beforeWrite_cfg] at hcfg
  rw [exec_un8Mem, perform_ok_of_cfg m.addend (un8Mem_ok haddr hread htaken)
    (by rw [State.modCore_cfg, State.afterWrite_cfg, hcfg])]

theorem exec_un8Mem_rejected (ho : o ≠ .tst) (hrejects : s.myCfg.rejects a (o.effect u.core.cc v).1 = true) :
    exec (Instr.un8Mem o m) s = .next ((u.beforeWrite o v).bankFault a (o.effect u.core.cc v).1) := by
  rw [exec_un8Mem, perform_error (un8Mem_rejected haddr hread ho hrejects)]

/-- Taken or rejected, the byte written is the only one that changes. -/
theorem exec_un8Mem_keepsBut (ho : o ≠ .tst) (hexec : exec (Instr.un8Mem o m) s = .next w) : s.KeepsBut w [a] := by
  have hkeeps : s.KeepsBut ((u.beforeWrite o v).stored a (o.effect u.core.cc v).1) [a] :=
    (keepsBut_beforeWrite_of_reads haddr hread o).trans (keepsBut_stored _ a _)
      (beforeWrite_of_reads_cfg haddr hread o) (beforeWrite_of_reads_active haddr hread o)
  cases hbyte : s.myCfg.rejects a (o.effect u.core.cc v).1 with
  | false =>
    rw [exec_un8Mem_ok haddr hread (.inr hbyte), State.afterWrite_of_ne _ _ _ ho] at hexec
    cases hexec
    exact hkeeps.modCore_tick _ _
  | true =>
    rw [exec_un8Mem_rejected haddr hread ho hbyte,
      ← State.stored_bankFault (by rwa [beforeWrite_of_reads_myCfg haddr hread o])] at hexec
    cases hexec
    exact hkeeps

end

theorem stores_un8Mem_tst (m : MemOp) : (Instr.un8Mem .tst m).stores = false := by cases m <;> rfl

end Sys2Proof.Machine

namespace Sys2Proof

open Machine

set_option Elab.async false

/-- Settles O27: the bitwise function of the accumulator and the operand read, with the flags of `logic8`. -/
theorem logic8 : Obligations.Logic8 := by
  intro o key f r src s hop
  have hbitwise : IsBitwise o f := by
    rcases hop with ⟨rfl, -, rfl⟩ | ⟨rfl, -, rfl⟩ | ⟨rfl, -, rfl⟩ | ⟨rfl, -, rfl⟩
    · exact isBitwise_and
    · exact isBitwise_or
    · exact isBitwise_eor
    · exact isBitwise_bit
  have hkey : (Instr.bin8 o r src).opcode = key + r.column + src.column := by
    rcases hop with ⟨rfl, rfl, -⟩ | ⟨rfl, rfl, -⟩ | ⟨rfl, rfl, -⟩ | ⟨rfl, rfl, -⟩ <;> cases r <;>
      rcases src with _ | (_ | _ | _) <;> rfl
  obtain ⟨m, t, hreads⟩ := reads8_exists src s
  refine ⟨hkey, m, t, hreads, ?_⟩
  rw [exec_bin8_of_reads o r hreads, hkey, funext (hbitwise r m)]
  simp only [CC.logic8_eq]

/-- Settles O31: one read, the write that `TST` does not make, then the flags, which the write leaves alone. -/
theorem unaryMemory : Obligations.UnaryMemory := by
  intro o m s key
  have hkey : (Instr.un8Mem o m).opcode = key := by cases o <;> cases m <;> rfl
  obtain ⟨a, t, haddr⟩ := addresses_exists m s
  obtain ⟨v, u, hread⟩ := readsByte_exists a t
  refine ⟨hkey, a, t, v, u, haddr, hread, ?_⟩
  rw [← hkey, ← State.beforeWrite_eq]
  refine ⟨exec_un8Mem_ok haddr hread, exec_un8Mem_rejected haddr hread, fun t' hexec => ?_⟩
  split
  case isTrue ho =>
    subst ho
    exact noStoreKeepsMemory _ _ _ (stores_un8Mem_tst m) hexec
  case isFalse ho => exact exec_un8Mem_keepsBut haddr hread ho hexec

/-- Settles O33: each instruction is one change of the core, the mask on the byte of CC. -/
theorem andOrCC : Obligations.AndOrCC := by
  intro v s
  have handcc : exec (.andcc v) s = perform 0x1C noAddend (modifyCore fun c => c.setCC (c.cc.andMask v)) s := rfl
  have horcc : exec (.orcc v) s = perform 0x1A noAddend (modifyCore fun c => c.setCC (c.cc.orMask v)) s := rfl
  refine ⟨?_, ?_, rfl, rfl⟩
  · rw [handcc, perform_modifyCore]
    rfl
  · rw [horcc, perform_modifyCore]
    rfl

end Sys2Proof
end

section
/-! Transfers and exchanges: loads of registers, the values read before any is made. -/

namespace Sys2Proof.Machine

set_option Elab.async false

/-! ### The instructions -/

theorem exec_tfr (r0 r1 : Reg) (s : State) : exec (.tfr r0 r1) s = perform 0x1F noAddend (transfer r0 r1) s := rfl

theorem exec_exg (r0 r1 : Reg) (s : State) : exec (.exg r0 r1) s = perform 0x1E noAddend (exchange r0 r1) s := rfl

/-- The cycles of an operation without an addend that keeps the configuration. -/
theorem perform_noAddend_ok {opcode : Nat} {m : Op Unit} {s t : State} (h : m s = .ok () t) (hcfg : t.cfg = s.cfg) :
    perform opcode noAddend m s = .next (t.tick (s.cfg.cycles.opcode opcode)) :=
  perform_ok_of_cfg (fun _ => 0) h hcfg

/-! ### Arming the NMI -/

theorem Core.armIf_set16 (c : Core) (on : Bool) (r : Reg16) (v : Word) :
    (c.armIf on).set16 r v = (c.set16 r v).armIf on := by
  cases r <;> rfl

theorem Core.armIf_armIf (c : Core) (on on' : Bool) : (c.armIf on).armIf on' = c.armIf (on || on') := by
  simp only [Core.armIf, Bool.or_assoc]

/-! ### Transfers -/

theorem transfer_r16 (p q : Reg16) (s : State) : transfer (.r16 p) (.r16 q) s =
    .ok () (s.modCore fun c => (c.set16 q (c.get16 p)).armIf (decide (q = .s) && s.cfg.hasNmi)) :=
  loadReg_arms q (s.core.get16 p) s

/-- Both registers are read first; then `q` is loaded and `p` after it, and either load of `S` arms the NMI. -/
theorem exchange_r16 (p q : Reg16) (s : State) : exchange (.r16 p) (.r16 q) s =
    .ok () (s.modCore fun c => ((c.set16 q (c.get16 p)).set16 p (c.get16 q)).armIf
      ((decide (p = .s) || decide (q = .s)) && s.cfg.hasNmi)) := by
  have hloads : exchange (.r16 p) (.r16 q) s = (do
      loadReg q (s.core.get16 p)
      loadReg p (s.core.get16 q) : Op Unit) s := rfl
  rw [hloads, op_bind_ok (loadReg_arms _ _ s), loadReg_arms, State.modCore_modCore, State.modCore_cfg]
  refine congrArg _ (State.modCore_congr ?_)
  rw [Core.armIf_set16, Core.armIf_armIf, ← Bool.and_or_distrib_right, Bool.or_comm]

end Sys2Proof.Machine

namespace Sys2Proof

open Machine

set_option Elab.async false

/-- Settles O34: a transfer is one load of a register, an exchange two, with both values read first. -/
theorem transferExchange : Obligations.TransferExchange := by
  intro s
  refine ⟨fun p q => ⟨?_, ?_⟩, fun p q => ⟨?_, ?_⟩⟩
  · rw [exec_tfr, perform_noAddend_ok (transfer_r16 p q s) (s.modCore_cfg _)]
  · rw [exec_exg, perform_noAddend_ok (exchange_r16 p q s) (s.modCore_cfg _)]
  · exact perform_modifyCore 0x1F _ s
  · exact perform_modifyCore 0x1E _ s

end Sys2Proof
end

section
/-! Pushes of any bytes: every byte is written, or the push ends in `BankError` at one of them; either way only the
addresses below the stack pointer are written. Then `PSHS` and `PSHU`. -/

namespace Sys2Proof.Machine

set_option Elab.async false

/-! ### The two ends of a push -/

/-- What an operation that pushes `vs` may answer from `s`: all of `vs` is written; or a beginning of `vs` is, and the
step ends with the `BankError` of its last byte (20_memory.md R67; 60_exceptions.md R403). -/
def PushResult (s : State) (p : StackPtr) (vs : List Byte) (r : EStateM.Result Unit State Unit) : Prop :=
  (s.myCfg.acceptsPush (s.core.sp p) vs = true ∧ r = .ok () (s.pushed p vs)) ∨
  (s.myCfg.acceptsPush (s.core.sp p) vs = false ∧ ∃ ws rest v, vs = ws ++ rest ∧ r = .error () (s.pushed p ws) ∧
    (s.pushed p ws).fatal = some (.bankError s.active v))

/-- From every state the operation pushes `vs`, or ends at the first byte that is rejected. -/
def PushesOrEnds (m : Op Unit) (p : StackPtr) (vs : List Byte) : Prop := ∀ s, PushResult s p vs (m s)

section
variable {s : State} {p : StackPtr} {vs : List Byte} {r : EStateM.Result Unit State Unit}

theorem PushResult.accepted (h : PushResult s p vs r) (haccepts : s.myCfg.acceptsPush (s.core.sp p) vs = true) :
    r = .ok () (s.pushed p vs) := by
  rcases h with ⟨-, hr⟩ | ⟨hrejects, -⟩
  · exact hr
  · rw [haccepts] at hrejects
    cases hrejects

theorem PushResult.rejected (h : PushResult s p vs r) (hrejects : s.myCfg.acceptsPush (s.core.sp p) vs = false) :
    ∃ ws v, r = .error () (s.pushed p ws) ∧ (s.pushed p ws).fatal = some (.bankError s.active v) := by
  rcases h with ⟨haccepts, -⟩ | ⟨-, ws, -, v, -, hends⟩
  · rw [hrejects] at haccepts
    cases haccepts
  · exact ⟨ws, v, hends⟩

theorem pushAddrs_subset (sp : Word) {n k : Nat} (h : n ≤ k) : pushAddrs sp n ⊆ pushAddrs sp k := by
  induction n generalizing sp k with
  | zero => exact List.nil_subset _
  | succ n ih =>
    cases k with
    | zero => exact absurd h n.not_succ_le_zero
    | succ k => exact List.cons_subset_cons _ (ih _ (Nat.le_of_succ_le_succ h))

/-- Wherever a push ends, only the addresses below the stack pointer were written. -/
theorem PushResult.keepsBut (h : PushResult s p vs r) : s.KeepsBut (after r) (pushAddrs (s.core.sp p) vs.length) := by
  rcases h with ⟨-, rfl⟩ | ⟨-, ws, rest, -, rfl, rfl, -⟩
  · exact keepsBut_pushed s p vs
  · exact (keepsBut_pushed s p ws).mono (pushAddrs_subset _ (by simp))

end

/-! ### Pushes one after another -/

section
variable {m k : Op Unit} {p : StackPtr} {vs ws : List Byte}

theorem pushesOrEnds_nil (p : StackPtr) : PushesOrEnds (pure ()) p [] := fun _ => .inl ⟨rfl, rfl⟩

theorem push8_apply (p : StackPtr) (v : Byte) (s : State) :
    push8 p v s = memWrite8 (s.core.sp p - 1#16) v (s.modCore fun c => c.setSp p (c.sp p - 1#16)) := by
  simp only [push8, modifyCore_bind, getCore_bind, State.modCore_core, Core.setSp_sp]

/-- The pointer has moved when the byte is rejected (R67, R403). -/
theorem State.pushed_singleton_bankFault {s : State} {v : Byte} (h : s.myCfg.rejects (s.core.sp p - 1#16) v = true) :
    s.pushed p [v] = (s.modCore fun c => c.setSp p (c.sp p - 1#16)).bankFault (s.core.sp p - 1#16) v :=
  State.stored_bankFault (by rwa [State.modCore_myCfg])

theorem pushesOrEnds_push8 (p : StackPtr) (v : Byte) : PushesOrEnds (push8 p v) p [v] := by
  intro s
  cases haccepts : s.myCfg.acceptsPush (s.core.sp p) [v] with
  | true => exact .inl ⟨haccepts, pushes_push8 p v s haccepts⟩
  | false =>
    have hrejects : s.myCfg.rejects (s.core.sp p - 1#16) v = true := by
      simpa [BoardCfg.acceptsPush] using haccepts
    have hfault := State.pushed_singleton_bankFault hrejects
    refine .inr ⟨haccepts, [v], [], v, rfl, ?_, ?_⟩
    · rw [push8_apply, memWrite8_bankFault (by rwa [State.modCore_myCfg]), hfault]
    · rw [hfault, State.bankFault, State.modCore_active]

theorem PushesOrEnds.seq (hm : PushesOrEnds m p vs) (hk : PushesOrEnds k p ws) :
    PushesOrEnds (m >>= fun _ => k) p (vs ++ ws) := by
  intro s
  rcases hm s with ⟨haccepts, hok⟩ | ⟨hrejects, bytes, rest, v, hbytes, herror, hfatal⟩
  · have hiff : s.myCfg.acceptsPush (s.core.sp p) (vs ++ ws) =
        (s.pushed p vs).myCfg.acceptsPush ((s.pushed p vs).core.sp p) ws := by
      rw [Bool.eq_iff_iff, acceptsPush_append, State.pushed_myCfg, State.pushed_sp]
      exact and_iff_right haccepts
    rw [op_bind_ok hok, PushResult, hiff, State.pushed_append]
    rcases hk (s.pushed p vs) with hrest | ⟨hrejects, bytes, rest, v, hbytes, herror, hfatal⟩
    · exact .inl hrest
    · rw [← State.pushed_append] at herror hfatal
      rw [State.pushed_active] at hfatal
      exact .inr ⟨hrejects, vs ++ bytes, rest, v, by rw [hbytes, List.append_assoc], herror, hfatal⟩
  · refine .inr ⟨Bool.eq_false_iff.mpr fun hall => ?_, bytes, rest ++ ws, v,
      by rw [hbytes, List.append_assoc], op_bind_error herror, hfatal⟩
    rw [(acceptsPush_append.mp hall).1] at hrejects
    cases hrejects

theorem pushesOrEnds_push16 (p : StackPtr) (v : Word) : PushesOrEnds (push16 p v) p (pushOrder v) :=
  (pushesOrEnds_push8 p (loByte v)).seq (pushesOrEnds_push8 p (hiByte v))

/-- One register of a stack postbyte: pushed when its bit is set, and then the others. -/
theorem PushesOrEnds.ifThen (b : Bool) (hm : PushesOrEnds m p vs) (hk : PushesOrEnds k p ws) :
    PushesOrEnds (if b = true then m >>= fun _ => k else k) p ((if b = true then vs else []) ++ ws) := by
  cases b
  · exact hk
  · exact hm.seq hk

end

/-! ### `PSHS` and `PSHU` -/

theorem exec_psh (p : StackPtr) (m : Byte) (s : State) :
    exec (match p with | .s => .pshs m | .u => .pshu m) s =
      perform (match p with | .s => 0x34 | .u => 0x36) (stackAddend m) (pushRegs p m) s := by
  cases p <;> rfl

/-- The registers of a stack postbyte are those of the core before the first push (43_transfer_stack.md R303, R305). -/
theorem pushRegs_result (p : StackPtr) (m : Byte) (s : State) :
    PushResult s p (pushList p m s.core) (pushRegs p m s) := by
  have hlast : PushesOrEnds (if m.getLsbD 0 = true then push8 p s.core.cc.toByte else pure ()) p
      (if m.getLsbD 0 = true then [s.core.cc.toByte] else []) := by
    cases m.getLsbD 0
    · exact pushesOrEnds_nil p
    · exact pushesOrEnds_push8 p _
  simp only [pushList, List.append_assoc]
  exact (pushesOrEnds_push16 p _).ifThen _ ((pushesOrEnds_push16 p _).ifThen _ ((pushesOrEnds_push16 p _).ifThen _
    ((pushesOrEnds_push16 p _).ifThen _ ((pushesOrEnds_push8 p _).ifThen _ ((pushesOrEnds_push8 p _).ifThen _
      ((pushesOrEnds_push8 p _).ifThen _ hlast)))))) s

theorem length_ite_nil (b : Bool) (vs : List Byte) : (if b = true then vs else []).length = vs.length * b.toNat := by
  cases b <;> simp

theorem pushList_length (p : StackPtr) (m : Byte) (c : Core) : (pushList p m c).length = stackBytes m := by
  simp only [pushList, List.length_append, length_ite_nil, pushOrder, List.length_cons, List.length_nil, stackBytes]
  omega

/-- The frame of a step that is one push, also when it ends in `BankError`. -/
theorem perform_keepsBut_of_push {opcode : Nat} {addend : State → Nat} {m : Op Unit} {s t : State} {p : StackPtr}
    {vs : List Byte} (h : PushResult s p vs (m s)) (hnext : perform opcode addend m s = .next t) :
    s.KeepsBut t (pushAddrs (s.core.sp p) vs.length) := by
  have hkeeps := h.keepsBut
  cases hm : m s with
  | ok _ t' =>
    rw [perform_ok hm] at hnext
    cases hnext
    rw [hm] at hkeeps
    rw [← t'.modCore_id]
    exact hkeeps.modCore_tick _ _
  | error _ t' =>
    rw [perform_error hm] at hnext
    cases hnext
    rwa [hm] at hkeeps

end Sys2Proof.Machine

namespace Sys2Proof

open Machine

set_option Elab.async false

/-- Settles O35: the bytes of the mask, one after the other, to the end or to the first that is rejected. -/
theorem pushRegisters : Obligations.PushRegisters := by
  intro p m s i key bytes
  have hexec : exec i s = perform key (stackAddend m) (pushRegs p m) s := exec_psh p m s
  have hpush := pushRegs_result p m s
  have hlength : bytes.length = stackBytes m := pushList_length p m s.core
  refine ⟨by cases p <;> rfl, hlength, fun haccepts => ?_, fun hrejects => ?_, fun t hnext => ?_⟩
  · rw [hexec, perform_ok (hpush.accepted haccepts), stackAddend, State.pushed_cfg, hlength]
  · obtain ⟨ws, v, herror, hfatal⟩ := hpush.rejected hrejects
    exact ⟨_, v, hexec.trans (perform_error herror), hfatal⟩
  · exact perform_keepsBut_of_push hpush (hexec.symm.trans hnext)

end Sys2Proof
end

section
/-! Pulls: an operation that pulls `n` bytes outside the hardware window moves its stack pointer by `n` and changes the
registers by what stands there. Then `PULS` and `PULU`. -/

namespace Sys2Proof.Machine

set_option Elab.async false

/-! ### One pull after another -/

/-- From a state that has the memory of `s`, the operation pulls `n` plain bytes from the stack pointer up: `g`, given
the address the pull starts at, is what it changes beside the pointer, which it neither reads nor writes. -/
structure Pulls (s : State) (m : Op Unit) (p : StackPtr) (n : Nat) (g : Word → Core → Core) : Prop where
  apply : ∀ c : Core, s.myCfg.plainRange (c.sp p) n = true →
    m (s.setCore c) = .ok () (s.setCore ((g (c.sp p) c).setSp p (c.sp p + BitVec.ofNat 16 n)))
  setSp : ∀ (a w : Word) (c : Core), g a (c.setSp p w) = (g a c).setSp p w

@[simp] theorem State.setCore_core (s : State) (c : Core) : (s.setCore c).core = c := s.modCore_core fun _ => c

@[simp] theorem State.setCore_cfg (s : State) (c : Core) : (s.setCore c).cfg = s.cfg := s.modCore_cfg fun _ => c

@[simp] theorem State.setCore_myCfg (s : State) (c : Core) : (s.setCore c).myCfg = s.myCfg := s.modCore_myCfg fun _ => c

@[simp] theorem State.setCore_at (s : State) (c : Core) (a : Word) : (s.setCore c).at a = s.at a :=
  s.modCore_at (fun _ => c) a

@[simp] theorem State.setCore_at16 (s : State) (c : Core) (a : Word) : (s.setCore c).at16 a = s.at16 a :=
  s.modCore_at16 (fun _ => c) a

theorem State.setCore_modCore (s : State) (c : Core) (f : Core → Core) : (s.setCore c).modCore f = s.setCore (f c) :=
  s.modCore_modCore (fun _ => c) f

theorem plainRange_add {c : BoardCfg} {a : Word} {n k : Nat} : c.plainRange a (n + k) = true ↔
    c.plainRange a n = true ∧ c.plainRange (a + BitVec.ofNat 16 n) k = true := by
  induction n generalizing a with
  | zero => simp [BoardCfg.plainRange]
  | succ n ih =>
    have hnext : a + 1#16 + BitVec.ofNat 16 n = a + BitVec.ofNat 16 (n + 1) := by
      rw [Nat.add_comm, BitVec.ofNat_add, BitVec.add_assoc]
    rw [Nat.succ_add_eq_add_succ, Nat.add_succ, BoardCfg.plainRange, BoardCfg.plainRange, Bool.and_eq_true,
      Bool.and_eq_true, ih, hnext, and_assoc]

section
variable {s : State} {p : StackPtr} {m k : Op Unit} {n j : Nat} {g h : Word → Core → Core}

/-- The pull from the state itself. -/
theorem Pulls.ok (hm : Pulls s m p n g) (hplain : s.myCfg.plainRange (s.core.sp p) n = true) : m s =
    .ok () (s.modCore fun c => (g (c.sp p) c).setSp p (c.sp p + BitVec.ofNat 16 n)) := by
  have hself : s.setCore s.core = s := s.modCore_id
  have happly := hm.apply s.core hplain
  rwa [hself] at happly

theorem pulls_nothing (s : State) (p : StackPtr) : Pulls s (pure ()) p 0 fun _ c => c where
  apply c _ := by simp
  setSp _ _ _ := rfl

theorem pulls_pullTo8 {f : Byte → Core → Core} (s : State)
    (hf : ∀ v w c, f v (c.setSp p w) = (f v c).setSp p w) : Pulls s (pullTo8 p f) p 1 fun a => f (s.at a) where
  apply c hplain := by
    have hplain : (s.setCore c).myCfg.plain ((s.setCore c).core.sp p) = true := by
      simpa [BoardCfg.plainRange] using hplain
    rw [pullTo8, op_bind_ok (pull8_plain hplain), modifyCore_apply, State.setCore_modCore, State.setCore_modCore, hf]
    simp
  setSp a := hf (s.at a)

/-- Both addresses of a word on the stack are plain. -/
theorem pull16_of_plainRange {c : Core} (hplain : s.myCfg.plainRange (c.sp p) 2 = true) : pull16 p (s.setCore c) =
    .ok (s.at16 (c.sp p)) (s.setCore (c.setSp p (c.sp p + 2#16))) := by
  simp only [BoardCfg.plainRange, Bool.and_true, Bool.and_eq_true] at hplain
  obtain ⟨hhigh, hlow⟩ := hplain
  rw [pull16_plain (by simpa using hhigh) (by simpa using hlow), State.setCore_modCore]
  simp

theorem pulls_pullTo16 {f : Word → Core → Core} (s : State)
    (hf : ∀ v w c, f v (c.setSp p w) = (f v c).setSp p w) : Pulls s (pullTo16 p f) p 2 fun a => f (s.at16 a) where
  apply c hplain := by
    rw [pullTo16, op_bind_ok (pull16_of_plainRange hplain), modifyCore_apply, State.setCore_modCore, hf]
  setSp a := hf (s.at16 a)

/-- `PULU` of `S` is a load of `S` (43_transfer_stack.md R306; 60_exceptions.md R410). -/
theorem pulls_pullOther (s : State) (p : StackPtr) : Pulls s (pullOther p) p 2 fun a c =>
    (c.setSp p.other (s.at16 a)).armIf (decide (p = .u) && s.cfg.hasNmi) where
  apply c hplain := by
    rw [pullOther, op_bind_ok (pull16_of_plainRange hplain)]
    cases p with
    | s => exact (loadReg_arms .u _ _).trans (by rw [State.setCore_modCore]; rfl)
    | u => exact (loadReg_arms .s _ _).trans (by rw [State.setCore_modCore, State.setCore_cfg]; rfl)
  setSp a w c := by cases p <;> rfl

/-- One register of a stack postbyte: pulled when its bit is set, and then the others. -/
theorem Pulls.ifThen (b : Bool) (hm : Pulls s m p n g) (hk : Pulls s k p j h) :
    Pulls s (if b = true then m >>= fun _ => k else k) p (n * b.toNat + j) fun a c =>
      h (a + BitVec.ofNat 16 (n * b.toNat)) (if b = true then g a c else c) := by
  cases b with
  | false => simpa using hk
  | true =>
    refine ⟨fun c hplain => ?_, fun a w c => ?_⟩
    · simp only [Bool.toNat_true, Nat.mul_one, plainRange_add] at hplain
      obtain ⟨hfirst, hrest⟩ := hplain
      have hrest := hk.apply ((g (c.sp p) c).setSp p (c.sp p + BitVec.ofNat 16 n)) (by rwa [Core.setSp_sp])
      rw [if_pos rfl, op_bind_ok (hm.apply c hfirst), hrest, Core.setSp_sp, hk.setSp, Core.setSp_setSp]
      simp [BitVec.ofNat_add, BitVec.add_assoc]
    · simp [hm.setSp, hk.setSp]

/-- The last register of a stack postbyte. -/
theorem Pulls.cond (b : Bool) (hm : Pulls s m p n g) :
    Pulls s (if b = true then m else pure ()) p (n * b.toNat) fun a c => if b = true then g a c else c := by
  cases b with
  | false => simpa using pulls_nothing s p
  | true => simpa using hm

end

/-! ### One register at a time -/

theorem Core.set8_setSp (c : Core) (p : StackPtr) (w : Word) (r : Reg8) (v : Byte) :
    (c.setSp p w).set8 r v = (c.set8 r v).setSp p w := by
  cases p <;> cases r <;> rfl

theorem Core.set8_get8_self (c : Core) (r : Reg8) : c.set8 r (c.get8 r) = c := by
  cases r <;> simp [Core.set8, Core.get8]

theorem Core.set8_ite (c : Core) (r : Reg8) (b : Bool) (v : Byte) :
    (if b = true then c.set8 r v else c) = c.set8 r (if b = true then v else c.get8 r) := by
  cases b
  · exact (c.set8_get8_self r).symm
  · rfl

theorem Core.set8_cc_ite (c : Core) (b : Bool) (v : Byte) : c.set8 .cc (if b = true then v else c.get8 .cc) =
    { c with cc := if b = true then CC.ofByte v else c.cc } := by
  cases b
  · exact c.set8_get8_self .cc
  · rfl

theorem Core.set16_setSp {r : Reg16} (hs : r ≠ .s) (hu : r ≠ .u) (c : Core) (p : StackPtr) (w v : Word) :
    (c.setSp p w).set16 r v = (c.set16 r v).setSp p w := by
  cases r
  case s => exact absurd rfl hs
  case u => exact absurd rfl hu
  all_goals cases p <;> rfl

theorem Core.set16_get16_self (c : Core) (r : Reg16) : c.set16 r (c.get16 r) = c := by
  cases r <;> simp [Core.set16, Core.get16, Core.setD, Core.d]

theorem Core.set16_ite (c : Core) (r : Reg16) (b : Bool) (v : Word) :
    (if b = true then c.set16 r v else c) = c.set16 r (if b = true then v else c.get16 r) := by
  cases b
  · exact (c.set16_get16_self r).symm
  · rfl

theorem Core.setSp_armIf_ite (c : Core) (p : StackPtr) (b on on' : Bool) (v : Word) :
    (if b = true then (c.setSp p v).armIf (on && on') else c) =
      (c.setSp p (if b = true then v else c.sp p)).armIf (on && (b && on')) := by
  cases b
  · simp [Core.armIf_false]
  · rfl

section
variable {s : State} {p : StackPtr} {k : Op Unit} {j : Nat} {h : Word → Core → Core}

theorem Pulls.congr {m : Op Unit} {n n' : Nat} {g g' : Word → Core → Core} (hm : Pulls s m p n g) (hn : n = n')
    (hg : ∀ a c, g a c = g' a c) : Pulls s m p n' g' := by
  obtain rfl : g = g' := funext fun a => funext (hg a)
  rwa [← hn]

theorem Pulls.reg8 (r : Reg8) (b : Bool) (hk : Pulls s k p j h) :
    Pulls s (if b = true then pullTo8 p (fun v c => c.set8 r v) >>= fun _ => k else k) p (b.toNat + j) fun a c =>
      h (a + BitVec.ofNat 16 b.toNat) (c.set8 r (if b = true then s.at a else c.get8 r)) := by
  have htake := pulls_pullTo8 (p := p) (f := fun v c => c.set8 r v) s fun v w c => c.set8_setSp p w r v
  exact (htake.ifThen b hk).congr (by rw [Nat.one_mul]) fun a c => by rw [Nat.one_mul, Core.set8_ite]

/-- `D`, `X`, `Y` or `PC`. -/
theorem Pulls.reg16 {r : Reg16} (hs : r ≠ .s) (hu : r ≠ .u) (b : Bool) (hk : Pulls s k p j h) :
    Pulls s (if b = true then pullTo16 p (fun v c => c.set16 r v) >>= fun _ => k else k) p (2 * b.toNat + j) fun a c =>
      h (a + BitVec.ofNat 16 (2 * b.toNat)) (c.set16 r (if b = true then s.at16 a else c.get16 r)) := by
  have htake := pulls_pullTo16 (p := p) (f := fun v c => c.set16 r v) s fun v w c => c.set16_setSp hs hu p w v
  exact (htake.ifThen b hk).congr rfl fun a c => by rw [Core.set16_ite]

theorem Pulls.lastReg16 {r : Reg16} (hs : r ≠ .s) (hu : r ≠ .u) (b : Bool) :
    Pulls s (if b = true then pullTo16 p (fun v c => c.set16 r v) else pure ()) p (2 * b.toNat) fun a c =>
      c.set16 r (if b = true then s.at16 a else c.get16 r) := by
  have htake := pulls_pullTo16 (p := p) (f := fun v c => c.set16 r v) s fun v w c => c.set16_setSp hs hu p w v
  exact (htake.cond b).congr rfl fun a c => c.set16_ite r b _

theorem Pulls.other (b : Bool) (hk : Pulls s k p j h) :
    Pulls s (if b = true then pullOther p >>= fun _ => k else k) p (2 * b.toNat + j) fun a c =>
      h (a + BitVec.ofNat 16 (2 * b.toNat)) ((c.setSp p.other (if b = true then s.at16 a else c.sp p.other)).armIf
        (decide (p = .u) && (b && s.cfg.hasNmi))) :=
  ((pulls_pullOther s p).ifThen b hk).congr rfl fun a c => by rw [Core.setSp_armIf_ite]

end

/-! ### `PULS` and `PULU` -/

theorem exec_pul (p : StackPtr) (m : Byte) (s : State) :
    exec (match p with | .s => .puls m | .u => .pulu m) s =
      perform (match p with | .s => 0x35 | .u => 0x37) (stackAddend m) (pullRegs p m) s := by
  cases p <;> rfl

/-- Where the register of a mask bit stands: above the registers of the lower bits (43_transfer_stack.md R304, R306). -/
def pullAddr (a : Word) (m below : Byte) : Word := a + BitVec.ofNat 16 (stackBytes (m &&& below))

/-- Each register stands above the one of the next lower bit. -/
theorem pullAddr_steps (a : Word) (m : Byte) :
    pullAddr a m 0x00 = a ∧
    pullAddr a m 0x01 = pullAddr a m 0x00 + BitVec.ofNat 16 (m.getLsbD 0).toNat ∧
    pullAddr a m 0x03 = pullAddr a m 0x01 + BitVec.ofNat 16 (m.getLsbD 1).toNat ∧
    pullAddr a m 0x07 = pullAddr a m 0x03 + BitVec.ofNat 16 (m.getLsbD 2).toNat ∧
    pullAddr a m 0x0F = pullAddr a m 0x07 + BitVec.ofNat 16 (m.getLsbD 3).toNat ∧
    pullAddr a m 0x1F = pullAddr a m 0x0F + BitVec.ofNat 16 (2 * (m.getLsbD 4).toNat) ∧
    pullAddr a m 0x3F = pullAddr a m 0x1F + BitVec.ofNat 16 (2 * (m.getLsbD 5).toNat) ∧
    pullAddr a m 0x7F = pullAddr a m 0x3F + BitVec.ofNat 16 (2 * (m.getLsbD 6).toNat) := by
  simp [pullAddr, stackBytes, Nat.mul_add, BitVec.ofNat_add, BitVec.add_assoc]

/-- The registers of the mask `m` take what stands on a stack from `a` up, CC first and PC last. -/
def State.pulledRegs (s : State) (p : StackPtr) (m : Byte) (a : Word) (c : Core) : Core :=
  let adr := pullAddr a m
  let c := { c with
    cc := if m.getLsbD 0 then CC.ofByte (s.at (adr 0x00)) else c.cc
    a := if m.getLsbD 1 then s.at (adr 0x01) else c.a
    b := if m.getLsbD 2 then s.at (adr 0x03) else c.b
    dp := if m.getLsbD 3 then s.at (adr 0x07) else c.dp
    x := if m.getLsbD 4 then s.at16 (adr 0x0F) else c.x
    y := if m.getLsbD 5 then s.at16 (adr 0x1F) else c.y
    pc := if m.getLsbD 7 then s.at16 (adr 0x7F) else c.pc }
  (c.setSp p.other (if m.getLsbD 6 then s.at16 (adr 0x3F) else c.sp p.other)).armIf
    (decide (p = .u) && (m.getLsbD 6 && s.cfg.hasNmi))

/-- The eight registers, the one of bit 0 first. -/
theorem pulls_pullRegs (s : State) (p : StackPtr) (m : Byte) :
    Pulls s (pullRegs p m) p (stackBytes m) (s.pulledRegs p m) := by
  have hchain : Pulls s (pullRegs p m) p _ _ :=
    .reg8 .cc _ (.reg8 .a _ (.reg8 .b _ (.reg8 .dp _ (.reg16 (r := .x) nofun nofun _ (.reg16 (r := .y) nofun nofun _
      (.other _ (.lastReg16 (r := .pc) nofun nofun _)))))))
  refine hchain.congr ?_ fun a c => ?_
  · rw [stackBytes]
    omega
  · obtain ⟨h0, h1, h2, h3, h4, h5, h6, h7⟩ := pullAddr_steps a m
    rw [State.pulledRegs, h7, h6, h5, h4, h3, h2, h1, h0, Core.set8_cc_ite]
    cases p <;> rfl

end Sys2Proof.Machine

namespace Sys2Proof

open Machine

set_option Elab.async false

/-- Settles O36: outside the hardware window the pulls, one after the other, are one change of the core; anywhere a
pull is answered, and nothing is stored. -/
theorem pullRegisters : Obligations.PullRegisters := by
  intro p m s i key n adr
  have hexec : exec i s = perform key (stackAddend m) (pullRegs p m) s := exec_pul p m s
  refine ⟨by cases p <;> rfl, fun hplain => ?_, ?_⟩
  · rw [hexec, perform_ok ((pulls_pullRegs s p m).ok hplain), stackAddend, State.modCore_cfg]
    refine congrArg (fun u : State => Host.Outcome.next (u.tick _)) (State.modCore_congr ?_)
    cases p
    · rw [State.pulledRegs, show decide (StackPtr.s = .u) = false from rfl, Bool.false_and, Core.armIf_false]
      rfl
    · rfl
  · obtain ⟨t, ht⟩ := runOp_next (fun t => t.cfg.cycles.opcode key + stackAddend m t) (pullRegs p m) s
    have hnext : exec i s = .next t := hexec.trans ht
    exact ⟨t, hnext, noStoreKeepsMemory i s t (by cases p <;> rfl) hnext⟩

end Sys2Proof
end

section
/-! Branches and jumps: what each condition says of the flags, and how it orders the operands of a compare; then jumps,
subroutine calls and the return from one. -/

namespace Sys2Proof

set_option Elab.async false

/-! ### The branch conditions -/

section
open Machine
variable (cc : CC)

@[simp] theorem Cond.holds_ra : Cond.ra.holds cc = true := rfl

@[simp] theorem Cond.holds_rn : Cond.rn.holds cc = false := rfl

@[simp] theorem Cond.holds_hi : Cond.hi.holds cc = decide (cc.c = false ∧ cc.z = false) := by
  simp [Cond.holds, Bool.decide_and]

@[simp] theorem Cond.holds_ls : Cond.ls.holds cc = decide (cc.c = true ∨ cc.z = true) := by
  simp [Cond.holds, Bool.decide_or]

@[simp] theorem Cond.holds_cc : Cond.cc.holds cc = decide (cc.c = false) := by simp [Cond.holds]

@[simp] theorem Cond.holds_cs : Cond.cs.holds cc = decide (cc.c = true) := by simp [Cond.holds]

@[simp] theorem Cond.holds_ne : Cond.ne.holds cc = decide (cc.z = false) := by simp [Cond.holds]

@[simp] theorem Cond.holds_eq : Cond.eq.holds cc = decide (cc.z = true) := by simp [Cond.holds]

@[simp] theorem Cond.holds_vc : Cond.vc.holds cc = decide (cc.v = false) := by simp [Cond.holds]

@[simp] theorem Cond.holds_vs : Cond.vs.holds cc = decide (cc.v = true) := by simp [Cond.holds]

@[simp] theorem Cond.holds_pl : Cond.pl.holds cc = decide (cc.n = false) := by simp [Cond.holds]

@[simp] theorem Cond.holds_mi : Cond.mi.holds cc = decide (cc.n = true) := by simp [Cond.holds]

@[simp] theorem Cond.holds_ge : Cond.ge.holds cc = decide (cc.n = cc.v) := by
  cases hn : cc.n <;> simp [Cond.holds, hn]

@[simp] theorem Cond.holds_lt : Cond.lt.holds cc = decide (cc.n ≠ cc.v) := by
  cases hn : cc.n <;> simp [Cond.holds, hn]

@[simp] theorem Cond.holds_gt : Cond.gt.holds cc = decide (cc.z = false ∧ cc.n = cc.v) := by
  cases hn : cc.n <;> simp [Cond.holds, hn, Bool.decide_and]

@[simp] theorem Cond.holds_le : Cond.le.holds cc = decide (cc.z = true ∨ cc.n ≠ cc.v) := by
  cases hn : cc.n <;> simp [Cond.holds, hn, Bool.decide_or]

end

end Sys2Proof

namespace Sys2Proof.Machine

set_option Elab.async false

/-! ### Branches -/

/-- A branch writes PC alone, by the flags before it. -/
theorem branch_apply (k : Cond) (o : Word) (s : State) : branch k o s =
    .ok () (s.modCore fun c => { c with pc := if k.holds s.core.cc then c.pc + o else c.pc }) := by
  rw [branch, modifyCore_apply]
  refine congrArg _ (State.modCore_congr ?_)
  split <;> rfl

/-- A branch changes no flag: the cycle of R361 is that of the condition before it. -/
theorem longAddend_branch (k : Cond) (s : State) (w : Core → Word) :
    longAddend k (s.modCore fun c => { c with pc := w c }) =
      if k.holds s.core.cc ∧ k ≠ .ra then s.cfg.cycles.longTaken else 0 := by
  by_cases hra : k = .ra
  · simp [longAddend, hra]
  · simp [longAddend, takenAddend, hra]

theorem exec_branch_eq (k : Cond) (o : Byte) (s : State) : exec (Instr.branch k o) s =
    .next ((s.modCore fun c =>
      { c with pc := if k.holds s.core.cc then BitVec.ofInt 16 (c.pc.toNat + o.toInt) else c.pc }).tick
        (s.cfg.cycles.opcode (Instr.branch k o).opcode)) := by
  rw [exec_branch, perform_noAddend_ok (branch_apply k (sext8 o) s) (s.modCore_cfg _)]
  simp only [sext8, add_signExtend]

theorem exec_longBranch_eq (k : Cond) (o : Word) (s : State) : exec (Instr.longBranch k o) s =
    .next ((s.modCore fun c => { c with pc := if k.holds s.core.cc then c.pc + o else c.pc }).tick
      (s.cfg.cycles.opcode (Instr.longBranch k o).opcode +
        if k.holds s.core.cc ∧ k ≠ .ra then s.cfg.cycles.longTaken else 0)) := by
  rw [exec_longBranch, perform_ok (branch_apply k o s), longAddend_branch, State.modCore_cfg]

/-! ### Flags after a compare -/

section
variable (x m : Byte)

theorem sub8_c : (sub8 x m false).c = decide (x.toNat < m.toNat) := by
  rw [sub8_eq, Bool.toNat_false, Nat.add_zero]

theorem sub8_z : (sub8 x m false).z = decide (x = m) := by
  have hx := x.isLt
  have hm := m.isLt
  rw [sub8_eq, decide_eq_decide, BitVec.toNat_eq, Bool.toNat_false]
  omega

/-- N and V differ exactly when the signed difference, before it wraps, is negative. -/
theorem sub8_n_eq_v : (sub8 x m false).n = (sub8 x m false).v ↔ m.toInt ≤ x.toInt := by
  have hx := x.isLt
  have hm := m.isLt
  rw [sub8_eq, Bool.toNat_false, decide_eq_decide, BitVec.toInt_eq_toNat_cond, BitVec.toInt_eq_toNat_cond]
  split <;> split <;> omega

end

/-- The flags that a compare with an immediate byte leaves (41_arithmetic.md R212, R213). -/
theorem cc_of_exec_cmpImm {r : Acc} {m : Byte} {s t : State} (h : exec (Instr.bin8 .cmp r (.imm m)) s = .next t) :
    t.core.cc = s.core.cc.ofSub8 .cmp (s.core.acc r) m false (sub8 (s.core.acc r) m false) := by
  rw [exec_bin8, perform_ok (show bin8 .cmp r (.imm m) s = .ok () (s.modCore (Bin8.cmp.apply r m)) from rfl)] at h
  cases h
  rw [State.tick_core, State.modCore_core, Bin8.apply_subtraction (.inr (.inr rfl)), if_pos rfl]
  rfl

/-! ### Jumps -/

section
variable {s t : State} {a : Word} {m : MemOp}

theorem exec_jump_of_addresses (h : Addresses m s a t) : exec (Instr.jump m) s =
    .next ((t.modCore fun c => { c with pc := a }).tick
      (s.cfg.cycles.opcode (Instr.jump m).opcode + m.addend s.cfg)) := by
  have hcfg := h.cfg
  obtain ⟨hea, -, -⟩ := h
  rw [exec_jump, perform_ok_of_cfg m.addend (by rw [jump, op_bind_ok hea, modifyCore_apply])
    (by rw [State.modCore_cfg, hcfg])]

/-- No addressing mode updates PC. -/
theorem MemOp.update_pc (m : MemOp) (c : Core) : (m.update c).pc = c.pc := by
  have hset16 (r : IdxReg) (w : Word) : (c.set16 (idxReg r) w).pc = c.pc := by cases r <;> rfl
  cases m with
  | idx p => cases p <;> first | rfl | exact hset16 _ _
  | _ => rfl

theorem Addresses.pc (h : Addresses m s a t) : t.core.pc = s.core.pc := by
  obtain ⟨-, heffect, -⟩ := h
  obtain ⟨-, -, -, -, -, -, hpc, -⟩ := heffect.core.regs
  rw [hpc, State.modCore_core, MemOp.update_pc]

end

/-! ### Subroutine calls -/

/-- A subroutine call (44_branch.md R353, R354, R356) once its target `a` is known: the address to return to is pushed
on `S`, then PC is written. -/
def call (ret a : Word) : Op Unit := do
  push16 .s ret
  modifyCore fun c => { c with pc := a }

theorem branchSub_eq_call (o : Word) (s : State) : branchSub o s = call s.core.pc (s.core.pc + o) s := rfl

theorem jumpSub_eq_call {s t : State} {a : Word} {m : MemOp} (h : Addresses m s a t) :
    jumpSub m s = call s.core.pc a t := by
  have hpc := h.pc
  obtain ⟨hea, -, -⟩ := h
  rw [jumpSub, op_bind_ok hea, getCore_bind, hpc, call]

section
variable {s : State} {ret a : Word}

theorem call_accepted (h : s.myCfg.acceptsPush s.core.s (pushOrder ret) = true) : call ret a s =
    .ok () ((s.pushed .s (pushOrder ret)).modCore fun c => { c with pc := a }) := by
  rw [call, op_bind_ok (pushes_push16 .s ret s h), modifyCore_apply]

theorem call_rejected (h : s.myCfg.acceptsPush s.core.s (pushOrder ret) = false) :
    ∃ ws v, call ret a s = .error () (s.pushed .s ws) ∧ (s.pushed .s ws).fatal = some (.bankError s.active v) := by
  obtain ⟨ws, v, herror, hfatal⟩ := (pushesOrEnds_push16 .s ret s).rejected h
  exact ⟨ws, v, by rw [call, op_bind_error herror], hfatal⟩

/-- Taken or rejected, a call writes the two bytes below the stack pointer only. -/
theorem call_keepsBut (s : State) (ret a : Word) : s.KeepsBut (after (call ret a s)) (pushAddrs s.core.s 2) := by
  have hpush : s.KeepsBut (after (push16 .s ret s)) (pushAddrs s.core.s 2) := (pushesOrEnds_push16 .s ret s).keepsBut
  cases hresult : push16 .s ret s with
  | ok _ u =>
    rw [hresult] at hpush
    rw [call, op_bind_ok hresult, modifyCore_apply]
    intro b x hout
    exact (u.modCore_peek (fun c => { c with pc := a }) b x).trans (hpush b x hout)
  | error _ u =>
    rw [hresult] at hpush
    rwa [call, op_bind_error hresult]

end

/-- Counting cycles changes no byte of memory. -/
theorem perform_keepsBut {opcode : Nat} {addend : State → Nat} {op : Op Unit} {s t u : State} {as : List Word}
    (h : s.KeepsBut (after (op t)) as) (hnext : perform opcode addend op t = .next u) : s.KeepsBut u as := by
  cases hop : op t with
  | ok _ w =>
    rw [hop] at h
    rw [perform_ok hop] at hnext
    cases hnext
    exact fun b x hout => (w.tick_peek _ b x).trans (h b x hout)
  | error _ w =>
    rw [hop] at h
    rw [perform_error hop] at hnext
    cases hnext
    exact h

/-- An instruction that calls a subroutine from the state `t` in which its target is known: both ends of the push, and
the frame. -/
theorem perform_call {opcode : Nat} (addend : Cfg → Nat) {op : Op Unit} {s t : State} {ret a : Word}
    (hop : op s = call ret a t) (hcfg : t.cfg = s.cfg) (hactive : t.active = s.active) (hkeeps : s.KeepsBut t []) :
    (s.myCfg.acceptsPush t.core.s (pushOrder ret) = true →
      perform opcode (fun u => addend u.cfg) op s =
        .next (((t.pushed .s (pushOrder ret)).modCore fun c => { c with pc := a }).tick
          (s.cfg.cycles.opcode opcode + addend s.cfg))) ∧
    (s.myCfg.acceptsPush t.core.s (pushOrder ret) = false →
      ∃ u v, perform opcode (fun u => addend u.cfg) op s = .next u ∧ u.fatal = some (.bankError s.active v)) ∧
    ∀ u, perform opcode (fun u => addend u.cfg) op s = .next u → s.KeepsBut u (pushAddrs t.core.s 2) := by
  have hmy : s.myCfg = t.myCfg := by rw [State.myCfg, State.myCfg, hcfg, hactive]
  rw [hmy, ← hactive]
  refine ⟨fun haccepts => ?_, fun hrejects => ?_, fun u hnext => ?_⟩
  · exact perform_ok_of_cfg addend (hop.trans (call_accepted haccepts))
      (by rw [State.modCore_cfg, State.pushed_cfg, hcfg])
  · obtain ⟨ws, v, herror, hfatal⟩ := call_rejected hrejects
    exact ⟨_, v, perform_error (hop.trans herror), hfatal⟩
  · have hframe := hkeeps.trans (call_keepsBut t ret a) hcfg hactive
    rw [← hop] at hframe
    exact perform_keepsBut hframe hnext

/-! ### Returns -/

/-- A pull from `S` is one read, after which `S` moves (20_memory.md R68). -/
theorem pull8_of_reads {s t : State} {v : Byte} (h : ReadsByte s.core.s s v t) :
    pull8 .s s = .ok v (t.modCore fun c => { c with s := c.s + 1#16 }) := by
  obtain ⟨hread, -, -⟩ := h
  have hsp : memRead8 (s.core.sp .s) s = .ok v t := hread
  rw [pull8, getCore_bind, op_bind_ok hsp, modifyCore_bind, op_pure]
  rfl

/-- After the first pull of a word `S` is one higher, whatever the read did. -/
theorem core_s_of_pulled {a : Word} {s t : State} {v : Byte} (h : ReadsByte a s v t) :
    (t.modCore fun c => { c with s := c.s + 1#16 }).core.s = s.core.s + 1#16 := by
  obtain ⟨-, heffect, -⟩ := h
  obtain ⟨-, -, -, -, -, hs, -, -⟩ := heffect.core.regs
  rw [State.modCore_core, hs]

theorem ReadsByte.cfg {a : Word} {s t : State} {v : Byte} (h : ReadsByte a s v t) : t.cfg = s.cfg := by
  obtain ⟨-, heffect, -⟩ := h
  exact heffect.cfg

/-- `RTS`: the two reads, the high byte's first, then PC (R357). -/
theorem exec_rts_of_reads {s t u : State} {hi lo : Byte} (hhi : ReadsByte s.core.s s hi t)
    (hlo : ReadsByte (s.core.s + 1#16) (t.modCore fun c => { c with s := c.s + 1#16 }) lo u) :
    exec .rts s = .next (((u.modCore fun c => { c with s := c.s + 1#16 }).modCore fun c =>
      { c with pc := word hi lo }).tick (s.cfg.cycles.opcode 0x39)) := by
  have hexec : exec .rts s = perform 0x39 noAddend returnSub s := rfl
  have hcfg : u.cfg = s.cfg := by rw [hlo.cfg, State.modCore_cfg, hhi.cfg]
  rw [← core_s_of_pulled hhi] at hlo
  have hpull : pull16 .s s = .ok (word hi lo) (u.modCore fun c => { c with s := c.s + 1#16 }) := by
    rw [pull16, op_bind_ok (pull8_of_reads hhi), op_bind_ok (pull8_of_reads hlo), op_pure]
  rw [hexec, perform_noAddend_ok (by rw [returnSub, op_bind_ok hpull, modifyCore_apply])
    (by rw [State.modCore_cfg, State.modCore_cfg, hcfg])]

end Sys2Proof.Machine

namespace Sys2Proof

open Machine

set_option Elab.async false

/-- Settles O37: a branch is one change of PC, on the condition that the table names. -/
theorem branches : Obligations.Branches := by
  intro k s cc taken longKey
  have htaken : taken = k.holds s.core.cc := by cases k <;> simp [taken, cc]
  refine ⟨fun o => ⟨by cases k <;> rfl, ?_⟩, fun o => ?_⟩
  · have hkey : (Instr.branch k o).opcode = 0x20 + k.code := by cases k <;> rfl
    rw [exec_branch_eq, hkey, htaken]
  · have hkey : (Instr.longBranch k o).opcode = longKey := by cases k <;> rfl
    refine ⟨hkey, ?_⟩
    rw [exec_longBranch_eq, hkey, htaken]

/-- Settles O38: the target, then the push, then PC. -/
theorem calls : Obligations.Calls := by
  intro s
  have hself : s.KeepsBut s [] := .of_peek (fun _ _ => rfl) []
  refine ⟨fun o => ?_, fun o => ?_, fun m => ?_⟩
  · have hexec : exec (.bsr o) s = perform 0x8D noAddend (branchSub (sext8 o)) s := rfl
    rw [hexec, ← add_signExtend]
    exact perform_call (fun _ => 0) (branchSub_eq_call (sext8 o) s) rfl rfl hself
  · have hexec : exec (.lbsr o) s = perform 0x17 noAddend (branchSub o) s := rfl
    rw [hexec]
    exact perform_call (fun _ => 0) (branchSub_eq_call o s) rfl rfl hself
  · have hkey : (Instr.jumpSub m).opcode = 0x8D + m.column := by cases m <;> rfl
    obtain ⟨a, t, haddr⟩ := addresses_exists m s
    refine ⟨hkey, a, t, haddr, ?_⟩
    rw [exec_jumpSub, hkey]
    exact perform_call m.addend (jumpSub_eq_call haddr) haddr.cfg haddr.active haddr.keepsBut

/-- Settles O39: the address computed, or the two bytes read, then PC; `NOP` and `SYNC` read nothing. -/
theorem jumpReturnNopSync : Obligations.JumpReturnNopSync := by
  intro s
  have hsync : exec .sync s = perform 0x13 noAddend (modifyCore fun c => { c with wait := .sync }) s := rfl
  refine ⟨fun m => ?_, ?_, rfl, by rw [hsync, perform_modifyCore], rfl, rfl, rfl⟩
  · have hkey : (Instr.jump m).opcode = 0x0E + m.rmwColumn := by cases m <;> rfl
    obtain ⟨a, t, haddr⟩ := addresses_exists m s
    refine ⟨hkey, a, t, haddr, ?_⟩
    rw [exec_jump_of_addresses haddr, hkey]
  · obtain ⟨hi, t, hhi⟩ := readsByte_exists s.core.s s
    obtain ⟨lo, u, hlo⟩ := readsByte_exists (s.core.s + 1#16) (t.modCore fun c => { c with s := c.s + 1#16 })
    exact ⟨hi, t, lo, u, hhi, hlo, exec_rts_of_reads hhi hlo⟩

/-- Settles O55: C is the unsigned order of the operands, Z their equality, and N differing from V the signed order. -/
theorem compareOrders : Obligations.CompareOrders := by
  intro r m s t hexec x cc
  have hcc : cc = s.core.cc.ofSub8 .cmp x m false (Machine.sub8 x m false) := cc_of_exec_cmpImm hexec
  have hc : cc.c = decide (x.toNat < m.toNat) := by rw [hcc, ← sub8_c]; rfl
  have hz : cc.z = decide (x = m) := by rw [hcc, ← sub8_z]; rfl
  have hnv : cc.n = cc.v ↔ m.toInt ≤ x.toInt := by rw [hcc, ← sub8_n_eq_v]; rfl
  have hnat : x = m ↔ x.toNat = m.toNat := BitVec.toNat_eq
  have hint : x = m ↔ x.toInt = m.toInt := BitVec.toInt_inj.symm
  refine ⟨?_, ?_, ?_, ?_, ?_, ?_, ?_, ?_, ?_, ?_⟩
  · simp only [Cond.holds_hi, hc, hz, hnat, decide_eq_true_eq, decide_eq_false_iff_not]
    omega
  · simp only [Cond.holds_ls, hc, hz, hnat, decide_eq_true_eq]
    omega
  · simp [hc]
  · simp [hc]
  · simp [hz]
  · simp [hz]
  · simp [hnv]
  · simp [hnv]
  · simp only [Cond.holds_gt, hz, hnv, hint, decide_eq_true_eq, decide_eq_false_iff_not]
    omega
  · simp only [Cond.holds_le, hz, hnv, hint, ne_eq, decide_eq_true_eq]
    omega

end Sys2Proof
end

section
/-! Interrupt entries: the context stacked, by whichever end its pushes have, and then the vector. The software interrupts
and `CWAI`; then `RTI`, and that it gives back what any full-state entry stacked. -/

namespace Sys2Proof.Machine

/-! ### The context stacked -/

/-- `PushAll`, to the end or to the first byte that is rejected (45_system.md R378). -/
theorem pushAll_result (s : State) : PushResult s .s (fullFrame s.core) (pushAll s) := by
  have hpushes : PushesOrEnds (do
      push16 .s s.core.pc
      push16 .s s.core.u
      push16 .s s.core.y
      push16 .s s.core.x
      push8 .s s.core.dp
      push8 .s s.core.b
      push8 .s s.core.a
      push8 .s s.core.cc.toByte) .s _ :=
    (pushesOrEnds_push16 .s _).seq <| (pushesOrEnds_push16 .s _).seq <| (pushesOrEnds_push16 .s _).seq <|
      (pushesOrEnds_push16 .s _).seq <| (pushesOrEnds_push8 .s _).seq <| (pushesOrEnds_push8 .s _).seq <|
        (pushesOrEnds_push8 .s _).seq (pushesOrEnds_push8 .s _)
  exact hpushes s

/-- E says whether the context stacked is the entire one (10_state.md R35). -/
def Core.withE (e : Bool) (c : Core) : Core := { c with cc := { c.cc with e := e } }

theorem fullFrame_length (c : Core) : (fullFrame c).length = 12 := rfl

theorem stackContext_result (k : Entry) (s : State) : PushResult (s.modCore (Core.withE k.entire)) .s
    (entryFrame k (s.modCore (Core.withE k.entire)).core) (stackContext k s) := by
  cases k
  case firq => exact ((pushesOrEnds_push16 .s _).seq (pushesOrEnds_push8 .s _)) _
  all_goals exact pushAll_result _

/-! ### The vector taken -/

/-- What the vectoring half of an entry does to the core, given what the vector holds. -/
def Core.vectored (c : Core) (k : Entry) (pc : Word) : Core :=
  { (c.clearLatch k).setMasks k with pc := pc }.countService k

theorem Core.vectored_s (c : Core) (k : Entry) (pc : Word) : (c.vectored k pc).s = c.s := by cases k <;> rfl

/-- In an accepted map the vectors stand in fixed ROM (20_memory.md R88). -/
theorem vector_fixedRom {c : BoardCfg} (hok : boardOk c = true) (k : Entry) :
    c.bankEnd ≤ k.vector.toNat ∧ c.bankEnd ≤ (k.vector + 1#16).toNat := by
  obtain ⟨-, -, hrom, -, -⟩ := regions_of_boardOk hok
  cases k <;> exact ⟨Nat.le_trans hrom (by decide), Nat.le_trans hrom (by decide)⟩

section
variable {s t : State} {a : Word}

theorem plain_fixedRom {c : BoardCfg} (hok : boardOk c = true) (ha : c.bankEnd ≤ a.toNat) : c.plain a = true := by
  obtain ⟨-, hhw, -, -, -⟩ := regions_of_boardOk hok
  rw [BoardCfg.plain, inWindow, decide_eq_false (p := a.toNat < c.hwEnd) (by omega), Bool.and_false, Bool.not_false]

/-- Fixed ROM reads the same in every state of one configuration. -/
theorem State.at_fixedRom_congr (hok : boardOk s.myCfg = true) (hcfg : t.myCfg = s.myCfg)
    (ha : s.myCfg.bankEnd ≤ a.toNat) : t.at a = s.at a := by
  obtain ⟨hhw, hbank, -, -, -⟩ := regions_of_boardOk hok
  have hd := decodeAddr_fixedRom a.isLt (c := s.myCfg) (by omega) (by omega) ha
  rw [State.at_of_decode_rom hd, State.at_of_decode_rom (hcfg.symm ▸ hd), hcfg]

theorem State.at16_vector_congr (hok : boardOk s.myCfg = true) (hcfg : t.myCfg = s.myCfg) (k : Entry) :
    t.at16 k.vector = s.at16 k.vector := by
  obtain ⟨hhigh, hlow⟩ := vector_fixedRom hok k
  rw [State.at16, State.at16, State.at_fixedRom_congr hok hcfg hhigh, State.at_fixedRom_congr hok hcfg hlow]

/-- Reading a vector in fixed ROM has no side effect. -/
theorem takeVector_ok (hok : boardOk s.myCfg = true) (k : Entry) :
    takeVector k s = .ok () (s.modCore fun c => c.vectored k (s.at16 k.vector)) := by
  obtain ⟨hhigh, hlow⟩ := vector_fixedRom hok k
  have hread := memRead16_plain (s := s.modCore fun c => (c.clearLatch k).setMasks k)
    (by rw [State.modCore_myCfg]; exact plain_fixedRom hok hhigh)
    (by rw [State.modCore_myCfg]; exact plain_fixedRom hok hlow)
  rw [takeVector, modifyCore_bind, op_bind_ok hread, modifyCore_apply, State.modCore_modCore, State.modCore_at16]
  rfl

end

/-- Two states between which no stack moved: the configuration, the stepping core, its `S` and every byte are the same. -/
structure State.SameStack (s t : State) : Prop where
  cfg : t.cfg = s.cfg
  active : t.active = s.active
  sp : t.core.s = s.core.s
  memory : s.SameMemory t

theorem State.SameStack.trans {s t u : State} (h : s.SameStack t) (k : t.SameStack u) : s.SameStack u where
  cfg := k.cfg.trans h.cfg
  active := k.active.trans h.active
  sp := k.sp.trans h.sp
  memory b x := (k.memory b x).trans (h.memory b x)

section
variable {s t : State} {a : Word}

theorem State.SameStack.at (h : s.SameStack t) : t.at a = s.at a := by rw [State.at, h.memory, h.active, State.at]

theorem State.SameStack.myCfg (h : s.SameStack t) : t.myCfg = s.myCfg := by rw [State.myCfg, h.cfg, h.active, State.myCfg]

theorem State.SameStack.shows (h : s.SameStack t) (vs : List Byte) : t.shows a vs = s.shows a vs := by
  induction vs generalizing a with
  | nil => rfl
  | cons v vs ih => rw [State.shows, State.shows, ih, h.at]

end

theorem sameStack_modCore (s : State) {f : Core → Core} (hf : ∀ c, (f c).s = c.s) : s.SameStack (s.modCore f) where
  cfg := s.modCore_cfg f
  active := s.modCore_active f
  sp := by rw [State.modCore_core, hf]
  memory := s.modCore_peek f

theorem sameStack_tick (s : State) (n : Nat) : s.SameStack (s.tick n) := sameStack_modCore s fun _ => rfl

theorem State.ReadEffect.sameStack {s t : State} (h : s.ReadEffect t) : s.SameStack t where
  cfg := h.cfg
  active := h.active
  sp := h.core.sp .s
  memory := h.peek

/-- Wherever the vector stands, the vectoring half moves no stack and stores nothing. -/
theorem takeVector_sameStack (k : Entry) (s : State) : ∃ t, takeVector k s = .ok () t ∧ s.SameStack t := by
  have hmasks (c : Core) : ((c.clearLatch k).setMasks k).s = c.s := by cases k <;> rfl
  have hcount (c : Core) : (c.countService k).s = c.s := by cases k <;> rfl
  obtain ⟨pc, t, hread, heffect⟩ := memRead16_ok k.vector (s.modCore fun c => (c.clearLatch k).setMasks k)
  refine ⟨t.modCore fun c => { c with pc := pc }.countService k, ?_,
    (sameStack_modCore s hmasks).trans (heffect.sameStack.trans (sameStack_modCore t fun _ => hcount _))⟩
  rw [takeVector, modifyCore_bind, op_bind_ok hread, modifyCore_apply]

/-! ### A context stacked, and what follows -/

/-- What an operation that stacks `vs` on `S` from `s` may answer: it ends in `u`, or in the `BankError` of a byte that is
rejected; either way only the addresses below `S` are written. -/
structure StacksThen (s : State) (vs : List Byte) (u : State) (r : EStateM.Result Unit State Unit) : Prop where
  accepted : s.myCfg.acceptsPush s.core.s vs = true → r = .ok () u
  rejected : s.myCfg.acceptsPush s.core.s vs = false → ∃ t v, r = .error () t ∧ t.fatal = some (.bankError s.active v)
  keepsBut : s.KeepsBut (after r) (pushAddrs s.core.s vs.length)

section
variable {s u : State} {vs : List Byte}

/-- A change of the core that leaves `S`, then a push, then an end that stores nothing. -/
theorem PushResult.stacksThen {m k : Op Unit} {f : Core → Core} (hpush : PushResult (s.modCore f) .s vs (m s))
    (hf : (f s.core).s = s.core.s) (hlast : k ((s.modCore f).pushed .s vs) = .ok () u)
    (hsame : ((s.modCore f).pushed .s vs).SameMemory u) : StacksThen s vs u ((m >>= fun _ => k) s) := by
  have hcfg : (s.modCore f).myCfg = s.myCfg := s.modCore_myCfg f
  have hactive : (s.modCore f).active = s.active := s.modCore_active f
  have hsp : (s.modCore f).core.sp .s = s.core.s := by rw [State.modCore_core]; exact hf
  refine ⟨fun haccepts => ?_, fun hrejects => ?_, fun b x hout => ?_⟩
  · rw [op_bind_ok (hpush.accepted (by rwa [hcfg, hsp])), hlast]
  · obtain ⟨ws, v, herror, hfatal⟩ := hpush.rejected (by rwa [hcfg, hsp])
    exact ⟨_, v, op_bind_error herror, by rw [hfatal, hactive]⟩
  · have hframe := hpush.keepsBut b x (by rwa [hcfg, hactive, hsp])
    rw [State.modCore_peek] at hframe
    rcases hpush with ⟨-, hm⟩ | ⟨-, ws, -, -, -, hm, -⟩
    · rw [hm] at hframe
      rw [op_bind_ok hm, hlast]
      exact (hsame b x).trans hframe
    · rw [hm] at hframe
      rwa [op_bind_error hm]

/-- An instruction that stacks `vs`: both ends of its push, and the frame. -/
theorem StacksThen.perform {opcode : Nat} {op : Op Unit} (h : StacksThen s vs u (op s)) (hcfg : u.cfg = s.cfg) :
    (s.myCfg.acceptsPush s.core.s vs = true →
      Machine.perform opcode noAddend op s = .next (u.tick (s.cfg.cycles.opcode opcode))) ∧
    (s.myCfg.acceptsPush s.core.s vs = false →
      ∃ t v, Machine.perform opcode noAddend op s = .next t ∧ t.fatal = some (.bankError s.active v)) ∧
    ∀ t, Machine.perform opcode noAddend op s = .next t → s.KeepsBut t (pushAddrs s.core.s vs.length) := by
  refine ⟨fun haccepts => perform_noAddend_ok (h.accepted haccepts) hcfg, fun hrejects => ?_,
    fun t => perform_keepsBut h.keepsBut⟩
  obtain ⟨t, v, herror, hfatal⟩ := h.rejected hrejects
  exact ⟨t, v, perform_error herror, hfatal⟩

end

/-! ### The software interrupts and `CWAI` -/

/-- The state an entry stacks its context into. -/
def State.stacked (s : State) (k : Entry) : State :=
  (s.modCore (Core.withE k.entire)).pushed .s (entryFrame k (s.modCore (Core.withE k.entire)).core)

@[simp] theorem State.stacked_cfg (s : State) (k : Entry) : (s.stacked k).cfg = s.cfg := by
  rw [State.stacked, State.pushed_cfg, State.modCore_cfg]

@[simp] theorem State.stacked_myCfg (s : State) (k : Entry) : (s.stacked k).myCfg = s.myCfg := by
  rw [State.stacked, State.pushed_myCfg, State.modCore_myCfg]

/-- An entry stacks the context and then takes the vector (60_exceptions.md R412 to R414). -/
theorem enter_stacksThen {k : Entry} {s u : State} (hvector : takeVector k (s.stacked k) = .ok () u)
    (hsame : (s.stacked k).SameStack u) :
    StacksThen s (entryFrame k (s.modCore (Core.withE k.entire)).core) u (enter k s) :=
  (stackContext_result k s).stacksThen rfl hvector hsame.memory

/-- The entry of an accepted map, whose vectors stand in fixed ROM. -/
theorem enter_of_boardOk {s : State} (hok : boardOk s.myCfg = true) (k : Entry) :
    StacksThen s (entryFrame k (s.modCore (Core.withE k.entire)).core)
      ((s.stacked k).modCore fun c => c.vectored k (s.at16 k.vector)) (enter k s) := by
  have hvector := takeVector_ok (s := s.stacked k) (by rwa [State.stacked_myCfg]) k
  rw [State.at16_vector_congr hok (s.stacked_myCfg k)] at hvector
  exact enter_stacksThen hvector (sameStack_modCore _ fun c => c.vectored_s k _)

theorem exec_swi (s : State) : exec .swi s = perform 0x3F noAddend (enter .swi) s := rfl

theorem exec_swi2 (s : State) : exec .swi2 s = perform 0x103F noAddend (enter .swi2) s := rfl

theorem exec_swi3 (s : State) : exec .swi3 s = perform 0x113F noAddend (enter .swi3) s := rfl

theorem exec_cwai (v : Byte) (s : State) : exec (.cwai v) s = perform 0x3C noAddend (cwai v) s := rfl

/-- The flags `CWAI` stacks and leaves (45_system.md R375). -/
def Core.cwaiMask (v : Byte) (c : Core) : Core := { c with cc := { CC.ofByte (c.cc.toByte &&& v) with e := true } }

/-- `CWAI` stacks the entire context and then waits. -/
theorem cwai_stacksThen (v : Byte) (s : State) :
    StacksThen s (fullFrame (s.modCore (Core.cwaiMask v)).core)
      (((s.modCore (Core.cwaiMask v)).pushed .s (fullFrame (s.modCore (Core.cwaiMask v)).core)).modCore fun c =>
        { c with wait := .cwai }) (cwai v s) :=
  PushResult.stacksThen (m := modifyCore (Core.cwaiMask v) >>= fun _ => pushAll)
    (k := modifyCore fun c => { c with wait := .cwai }) (pushAll_result _) rfl rfl (State.modCore_peek _ _)

/-! ### `RTI` -/

section
variable {s : State} {p : StackPtr} {j : Nat}

theorem Pulls.seq {m k : Op Unit} {n : Nat} {g h : Word → Core → Core} (hm : Pulls s m p n g) (hk : Pulls s k p j h) :
    Pulls s (m >>= fun _ => k) p (n + j) fun a c => h (a + BitVec.ofNat 16 n) (g a c) :=
  (hm.ifThen true hk).congr (by rw [Bool.toNat_true, Nat.mul_one])
    fun a c => by rw [Bool.toNat_true, Nat.mul_one, if_pos rfl]

theorem pulls_modifyCore (s : State) {f : Core → Core} (hf : ∀ w c, f (c.setSp p w) = (f c).setSp p w) :
    Pulls s (modifyCore f) p 0 fun _ => f where
  apply c _ := by
    rw [modifyCore_apply, State.setCore_modCore]
    simp [← hf]
  setSp _ w c := hf w c

/-- A byte pulled and handed to what follows. -/
theorem Pulls.read8 {k : Byte → Op Unit} {h : Byte → Word → Core → Core} (hk : ∀ v, Pulls s (k v) p j (h v)) :
    Pulls s (pull8 p >>= k) p (j + 1) fun a => h (s.at a) (a + 1#16) where
  apply c hplain := by
    obtain ⟨hfirst, hrest⟩ := BoardCfg.plainRange_succ.mp hplain
    have hrest := (hk (s.at (c.sp p))).apply (c.setSp p (c.sp p + 1#16)) (by rwa [Core.setSp_sp])
    have hpull := pull8_plain (p := p) (s := s.setCore c) (by rwa [State.setCore_myCfg, State.setCore_core])
    rw [State.setCore_at, State.setCore_core, State.setCore_modCore] at hpull
    rw [op_bind_ok hpull, hrest, Core.setSp_sp, (hk _).setSp, Core.setSp_setSp, BitVec.add_assoc,
      Nat.add_comm j, BitVec.ofNat_add]
  setSp a := (hk (s.at a)).setSp (a + 1#16)

/-- A word pulled and handed to what follows. -/
theorem Pulls.read16 {k : Word → Op Unit} {h : Word → Word → Core → Core} (hk : ∀ v, Pulls s (k v) p j (h v)) :
    Pulls s (pull16 p >>= k) p (j + 2) fun a => h (s.at16 a) (a + 2#16) where
  apply c hplain := by
    obtain ⟨hfirst, hrest⟩ := plainRange_add.mp (Nat.add_comm j 2 ▸ hplain)
    have hrest := (hk (s.at16 (c.sp p))).apply (c.setSp p (c.sp p + 2#16)) (by rwa [Core.setSp_sp])
    rw [op_bind_ok (pull16_of_plainRange hfirst), hrest, Core.setSp_sp, (hk _).setSp, Core.setSp_setSp,
      BitVec.add_assoc, Nat.add_comm j, BitVec.ofNat_add]
  setSp a := (hk (s.at16 a)).setSp (a + 2#16)

end

/-- The last pull of `RTI`. -/
def pullPc : Op Unit := pullTo16 .s fun v c => { c with pc := v }

/-- What `RTI` pulls after a CC with E set, PC last. -/
def pullEntire : Op Unit := do
  let a ← pull8 .s
  let b ← pull8 .s
  let dp ← pull8 .s
  let x ← pull16 .s
  let y ← pull16 .s
  let u ← pull16 .s
  modifyCore fun c => { c with a := a, b := b, dp := dp, x := x, y := y, u := u }
  pullPc

/-- CC comes first, and its E says which of the two follows (45_system.md R374). -/
theorem returnFromInterrupt_eq : returnFromInterrupt = (do
    let v ← pull8 .s
    modifyCore fun c => { c with cc := CC.ofByte v }
    if (CC.ofByte v).e then pullEntire else pullPc) := rfl

/-- What `pullEntire` makes of the core when it starts at `a`. -/
def State.pulledEntire (s : State) (a : Word) (c : Core) : Core :=
  { c with
    a := s.at a
    b := s.at (a + 1#16)
    dp := s.at (a + 2#16)
    x := s.at16 (a + 3#16)
    y := s.at16 (a + 5#16)
    u := s.at16 (a + 7#16)
    pc := s.at16 (a + 9#16) }

theorem pulls_pullPc (s : State) : Pulls s pullPc .s 2 fun a c => { c with pc := s.at16 a } :=
  pulls_pullTo16 s fun _ _ _ => rfl

theorem pulls_pullEntire (s : State) : Pulls s pullEntire .s 11 s.pulledEntire := by
  have hchain : Pulls s pullEntire .s _ _ :=
    .read8 fun _ => .read8 fun _ => .read8 fun _ => .read16 fun _ => .read16 fun _ => .read16 fun _ =>
      (pulls_modifyCore s fun _ _ => rfl).seq (pulls_pullPc s)
  refine hchain.congr rfl fun a c => ?_
  simp [State.pulledEntire, BitVec.add_assoc]

theorem exec_rti (s : State) : exec .rti s = perform 0x3B rtiAddend returnFromInterrupt s := rfl

section
variable {s : State}

/-- The core once `RTI` has pulled CC. -/
def Core.pulledCC (v : Byte) (c : Core) : Core := { c with s := c.s + 1#16, cc := CC.ofByte v }

/-- CC pulled: what remains is one of the two, from the stack pointer one higher. -/
theorem returnFromInterrupt_of_plain (hplain : s.myCfg.plain s.core.s = true) : returnFromInterrupt s =
    (if (CC.ofByte (s.at s.core.s)).e then pullEntire else pullPc) (s.setCore (s.core.pulledCC (s.at s.core.s))) := by
  rw [returnFromInterrupt_eq, op_bind_ok (pull8_plain hplain), modifyCore_bind, State.modCore_modCore]
  rfl

theorem exec_rti_entire (hplain : s.myCfg.plainRange s.core.s 12 = true) (he : (CC.ofByte (s.at s.core.s)).e = true) :
    exec .rti s = .next ((s.modCore fun c => { s.pulledEntire (s.core.s + 1#16) c with
      cc := CC.ofByte (s.at s.core.s)
      s := s.core.s + 12#16 }).tick (s.cfg.cycles.opcode 0x3B + s.cfg.cycles.rtiExtra)) := by
  obtain ⟨hcc, hrest⟩ := BoardCfg.plainRange_succ.mp hplain
  have hsp : s.core.s + 1#16 + 11#16 = s.core.s + 12#16 := BitVec.add_assoc _ _ _
  have hop := returnFromInterrupt_of_plain hcc
  rw [if_pos he, (pulls_pullEntire s).apply (s.core.pulledCC _) hrest] at hop
  rw [exec_rti, perform_ok hop, rtiAddend, State.setCore_core, State.setCore_cfg, Core.setSp_cc,
    if_pos (by exact he), ← hsp]
  rfl

theorem exec_rti_short (hplain : s.myCfg.plainRange s.core.s 3 = true) (he : (CC.ofByte (s.at s.core.s)).e = false) :
    exec .rti s = .next ((s.modCore fun c => { c with
      cc := CC.ofByte (s.at s.core.s)
      pc := s.at16 (s.core.s + 1#16)
      s := s.core.s + 3#16 }).tick (s.cfg.cycles.opcode 0x3B)) := by
  obtain ⟨hcc, hrest⟩ := BoardCfg.plainRange_succ.mp hplain
  have hsp : s.core.s + 1#16 + 2#16 = s.core.s + 3#16 := BitVec.add_assoc _ _ _
  have hshort : ¬ (CC.ofByte (s.at s.core.s)).e = true := Bool.eq_false_iff.mp he
  have hop := returnFromInterrupt_of_plain hcc
  rw [if_neg hshort, (pulls_pullPc s).apply (s.core.pulledCC _) hrest] at hop
  rw [exec_rti, perform_ok hop, rtiAddend, State.setCore_core, State.setCore_cfg, Core.setSp_cc, if_neg (by exact hshort),
    ← hsp]
  rfl

end

/-! ### What `RTI` gives back -/

section
variable {s : State} {a : Word}

theorem State.shows_append {vs ws : List Byte} : s.shows a (vs ++ ws) = true ↔
    s.shows a vs = true ∧ s.shows (a + BitVec.ofNat 16 vs.length) ws = true := by
  induction vs generalizing a with
  | nil => simp [State.shows]
  | cons v vs ih =>
    have hnext : a + 1#16 + BitVec.ofNat 16 vs.length = a + BitVec.ofNat 16 (v :: vs).length := by
      rw [List.length_cons, Nat.add_comm, BitVec.ofNat_add, BitVec.add_assoc]
    rw [List.cons_append, State.shows_cons, State.shows_cons, ih, hnext, and_assoc]

theorem sub_ofNat_succ (sp : Word) (n : Nat) : sp - BitVec.ofNat 16 (n + 1) = sp - 1#16 - BitVec.ofNat 16 n := by
  bv_omega

/-- Bytes that stand where they are pushed are shown upwards in the opposite order. -/
theorem State.shows_of_pushAddrs {sp : Word} {vs : List Byte} (h : (pushAddrs sp vs.length).map s.at = vs) :
    s.shows (sp - BitVec.ofNat 16 vs.length) vs.reverse = true := by
  induction vs generalizing sp with
  | nil => rfl
  | cons v vs ih =>
    obtain ⟨hv, hvs⟩ := List.cons_eq_cons.mp h
    rw [List.reverse_cons, State.shows_append, List.length_cons, sub_ofNat_succ, List.length_reverse, BitVec.sub_add_cancel]
    exact ⟨ih hvs, by rw [State.shows_cons]; exact ⟨hv, rfl⟩⟩

theorem acceptsPush_ram {c : BoardCfg} {sp : Word} (vs : List Byte)
    (h : ∀ a ∈ pushAddrs sp vs.length, a.toNat < c.ramEnd) : c.acceptsPush sp vs = true := by
  induction vs generalizing sp with
  | nil => rfl
  | cons v vs ih =>
    simp only [List.length_cons, pushAddrs, List.forall_mem_cons] at h
    obtain ⟨hfirst, hrest⟩ := h
    rw [BoardCfg.acceptsPush, BoardCfg.rejects_ram hfirst, ih hrest]
    rfl

theorem BoardCfg.plain_ram {c : BoardCfg} (h : a.toNat < c.ramEnd) : c.plain a = true := by
  rw [BoardCfg.plain, inWindow, decide_eq_false (p := c.ramEnd ≤ a.toNat) (by omega), Bool.false_and, Bool.not_false]

theorem plainRange_ram {c : BoardCfg} {sp : Word} {n : Nat} (h : ∀ a ∈ pushAddrs sp n, a.toNat < c.ramEnd) :
    c.plainRange (sp - BitVec.ofNat 16 n) n = true := by
  induction n generalizing sp with
  | zero => rfl
  | succ n ih =>
    simp only [pushAddrs, List.forall_mem_cons] at h
    obtain ⟨hfirst, hrest⟩ := h
    rw [plainRange_add, sub_ofNat_succ, BitVec.sub_add_cancel]
    exact ⟨ih hrest, by rw [BoardCfg.plainRange_succ]; exact ⟨BoardCfg.plain_ram hfirst, rfl⟩⟩

end

/-- The full frame of `c` stands on the stack, outside the hardware window. -/
structure State.Holds (t : State) (c : Core) : Prop where
  sp : t.core.s = c.s - 12#16
  plain : t.myCfg.plainRange t.core.s 12 = true
  shows : t.shows t.core.s (fullFrame c).reverse = true

theorem State.Holds.of_sameStack {s t : State} {c : Core} (h : s.Holds c) (hsame : s.SameStack t) : t.Holds c where
  sp := hsame.sp.trans h.sp
  plain := by rw [hsame.myCfg, hsame.sp]; exact h.plain
  shows := by rw [hsame.shows, hsame.sp]; exact h.shows

/-- With the stack in RAM, a full frame pushed from a core that has the same `S` is a full frame held. -/
theorem holds_pushed {s : State} {f : Core → Core} (hf : (f s.core).s = s.core.s)
    (hwf : (s.bd s.active).ram.wf = true) (hram : ∀ a ∈ pushAddrs s.core.s 12, a.toNat < s.myCfg.ramEnd) :
    ((s.modCore f).pushed .s (fullFrame (s.modCore f).core)).Holds (f s.core) := by
  have hstart : (s.modCore f).core.sp .s = s.core.s := by rw [State.modCore_core]; exact hf
  have hsp : ((s.modCore f).pushed .s (fullFrame (s.modCore f).core)).core.s = s.core.s - 12#16 := by
    rw [← hstart]
    exact State.pushed_sp _ .s _
  have hwf' : ((s.modCore f).bd (s.modCore f).active).ram.wf = true := by
    rw [State.modCore_bd_ram, State.modCore_active]
    exact hwf
  have hlen : (fullFrame (s.modCore f).core).length ≤ 0x10000 := by
    rw [fullFrame_length]
    decide
  have hram' : ∀ a ∈ pushAddrs ((s.modCore f).core.sp .s) (fullFrame (s.modCore f).core).length,
      a.toNat < (s.modCore f).myCfg.ramEnd := by
    rwa [hstart, State.modCore_myCfg]
  have hback := pushed_ram_readsBack hwf' hlen hram'
  rw [hstart] at hback
  refine ⟨by rw [hsp, hf], ?_, ?_⟩
  · rw [hsp, State.pushed_myCfg, State.modCore_myCfg]
    exact plainRange_ram hram
  · have hshows := State.shows_of_pushAddrs hback
    rw [State.modCore_core] at hshows hsp ⊢
    rw [hsp]
    exact hshows

/-- What the bytes of a full frame say of the registers they are pulled into. -/
theorem State.Holds.pulledEntire {t : State} {c : Core} (h : t.Holds c) (d : Core) :
    t.at t.core.s = c.cc.toByte ∧ t.pulledEntire (t.core.s + 1#16) d =
      { d with a := c.a, b := c.b, dp := c.dp, x := c.x, y := c.y, u := c.u, pc := c.pc } := by
  have hshows := h.shows
  simp only [fullFrame, pushOrder, List.cons_append, List.nil_append, List.reverse_cons, List.reverse_nil,
    State.shows_cons, BitVec.add_assoc, BitVec.reduceAdd] at hshows
  obtain ⟨hcc, ha, hb, hdp, hxh, hxl, hyh, hyl, huh, hul, hpch, hpcl, -⟩ := hshows
  refine ⟨hcc, ?_⟩
  simp only [State.pulledEntire, State.at16, BitVec.add_assoc, BitVec.reduceAdd, ha, hb, hdp, hxh, hxl, hyh, hyl, huh,
    hul, hpch, hpcl, word_hiByte_loByte]

/-- `RTI` gives back what a full frame holds (45_system.md R374, R378). -/
theorem State.Holds.rti {t : State} {c : Core} (h : t.Holds c) (he : c.cc.e = true) :
    ∃ u, exec .rti t = .next u ∧ u.core.SameProgram c.cc c := by
  obtain ⟨hcc, hregs⟩ := h.pulledEntire t.core
  refine ⟨_, exec_rti_entire h.plain (by rw [hcc, CC.ofByte_toByte, he]), ?_⟩
  rw [State.tick_core, State.modCore_core, hregs, hcc, CC.ofByte_toByte, h.sp, BitVec.sub_add_cancel]
  exact ⟨rfl, rfl, rfl, rfl, rfl, rfl, rfl, rfl, rfl⟩

/-- After an entry of the full state with the stack in RAM, wherever the vector stands. -/
theorem enter_holds {k : Entry} (hentire : k.entire = true) {s : State} (hwf : (s.bd s.active).ram.wf = true)
    (hram : ∀ a ∈ pushAddrs s.core.s 12, a.toNat < s.myCfg.ramEnd) :
    ∃ t, enter k s = .ok () t ∧ t.Holds (s.core.withE true) := by
  have hframe : entryFrame k (s.modCore (Core.withE k.entire)).core = fullFrame (s.modCore (Core.withE true)).core := by
    rw [entryFrame, hentire, if_pos rfl]
  have hpushed : (s.stacked k).Holds (s.core.withE true) := by
    rw [State.stacked, hframe, hentire]
    exact holds_pushed rfl hwf hram
  obtain ⟨t, hvector, hsame⟩ := takeVector_sameStack k (s.stacked k)
  refine ⟨t, (enter_stacksThen hvector hsame).accepted ?_, hpushed.of_sameStack hsame⟩
  rw [hframe]
  exact acceptsPush_ram _ hram

/-- After `CWAI` with the stack in RAM. -/
theorem cwai_holds (v : Byte) {s : State} (hwf : (s.bd s.active).ram.wf = true)
    (hram : ∀ a ∈ pushAddrs s.core.s 12, a.toNat < s.myCfg.ramEnd) :
    ∃ t, cwai v s = .ok () t ∧ t.Holds (s.core.cwaiMask v) ∧ t.core.wait = .cwai := by
  have hcwai := (cwai_stacksThen v s).accepted (acceptsPush_ram _ hram)
  refine ⟨_, hcwai, (holds_pushed rfl hwf hram).of_sameStack ?_, ?_⟩
  · exact sameStack_modCore _ fun _ => rfl
  · rw [State.modCore_core]

/-- The step of an instruction, or of a service, that is an entry of the full state, and then `RTI`. -/
theorem rti_after_enter {k : Entry} (hentire : k.entire = true) {s : State} (hwf : (s.bd s.active).ram.wf = true)
    (hram : ∀ a ∈ pushAddrs s.core.s 12, a.toNat < s.myCfg.ramEnd) (cycles : State → Nat) :
    ∃ t u, runOp cycles (enter k) s = .next t ∧ exec .rti t = .next u ∧
      u.core.SameProgram { s.core.cc with e := true } s.core := by
  obtain ⟨t, henter, hholds⟩ := enter_holds hentire hwf hram
  obtain ⟨u, hrti, hsame⟩ := (hholds.of_sameStack (sameStack_tick t (cycles t))).rti rfl
  exact ⟨_, u, runOp_ok henter, hrti, hsame⟩

/-- A core that runs or waits in `SYNC` services the interrupt that is due (60_exceptions.md R411, R421). -/
theorem coreStep_service {s : State} {k : Entry} (hwait : s.core.wait ≠ .cwai)
    (hdue : s.core.due s.cfg.hasNmi = some k) : coreStep s = serviceStep k s.wake := by
  cases hw : s.core.wait with
  | cwai => exact absurd hw hwait
  | sync => simp only [coreStep, hw, syncStep, hdue]
  | run =>
    have hawake : s.wake = s := by
      rw [State.wake, State.modCore_congr (g := fun c => c) (by rw [← hw]), State.modCore_id]
    simp only [coreStep, hw, runStep, hdue, hawake]

/-- A core that waits in `CWAI` takes the vector of the interrupt that is due (R421). -/
theorem coreStep_resume {s : State} {k : Entry} (hwait : s.core.wait = .cwai)
    (hdue : s.core.due s.cfg.hasNmi = some k) :
    coreStep s = runOp (fun t => t.cfg.cycles.resume) (takeVector k) s.wake := by
  simp only [coreStep, hwait, cwaiStep, hdue]

/-- The end of the wait stores nothing, so `RTI` finds what `CWAI` stacked. -/
theorem rti_after_resume {s : State} {k : Entry} {c : Core} (hholds : s.Holds c) (he : c.cc.e = true)
    (hwait : s.core.wait = .cwai) (hdue : s.core.due s.cfg.hasNmi = some k) :
    ∃ t u, coreStep s = .next t ∧ exec .rti t = .next u ∧ u.core.SameProgram c.cc c := by
  obtain ⟨t, hvector, hsame⟩ := takeVector_sameStack k s.wake
  have hawake : s.SameStack s.wake := sameStack_modCore s fun _ => rfl
  obtain ⟨u, hrti, hprogram⟩ := (hholds.of_sameStack (hawake.trans (hsame.trans (sameStack_tick t _)))).rti he
  exact ⟨_, u, (coreStep_resume hwait hdue).trans (runOp_ok hvector), hrti, hprogram⟩

end Sys2Proof.Machine

namespace Sys2Proof

open Machine

/-- Settles O40: each is the entry of its vector. -/
theorem softwareInterrupts : Obligations.SoftwareInterrupts := by
  intro s i key vector hok hcase
  have hcfg (k : Entry) : ((s.stacked k).modCore fun c => c.vectored k (s.at16 k.vector)).cfg = s.cfg := by
    rw [State.modCore_cfg, State.stacked_cfg]
  rcases hcase with ⟨rfl, rfl, rfl⟩ | ⟨rfl, rfl, rfl⟩ | ⟨rfl, rfl, rfl⟩
  · exact ⟨rfl, (enter_of_boardOk hok .swi).perform (hcfg _)⟩
  · exact ⟨rfl, (enter_of_boardOk hok .swi2).perform (hcfg _)⟩
  · exact ⟨rfl, (enter_of_boardOk hok .swi3).perform (hcfg _)⟩

/-- Settles O42: the mask, then the push of the entire state, then the wait. -/
theorem clearAndWait : Obligations.ClearAndWait := by
  intro s v s₁ frame
  refine ⟨rfl, ?_⟩
  rw [exec_cwai]
  exact (cwai_stacksThen v s).perform (by rw [State.modCore_cfg, State.pushed_cfg, State.modCore_cfg])

/-- Settles O41: the two returns, and that a pull stores nothing. -/
theorem returnFromInterrupt : Obligations.ReturnFromInterrupt := by
  intro s sp cc
  refine ⟨rfl, fun hplain he => ?_, fun hplain he => exec_rti_short hplain he, ?_⟩
  · rw [exec_rti_entire hplain he]
    simp only [State.pulledEntire, BitVec.add_assoc, BitVec.reduceAdd]
    rfl
  · obtain ⟨t, ht⟩ := runOp_next (fun t => t.cfg.cycles.opcode 0x3B + rtiAddend t) Machine.returnFromInterrupt s
    have hnext : exec .rti s = .next t := (exec_rti s).trans ht
    exact ⟨t, hnext, noStoreKeepsMemory .rti s t rfl hnext⟩

/-- Settles O46: an entry leaves a full frame that holds the program, nothing up to `RTI` writes it, and `RTI` pulls it. -/
theorem rtiUndoesEntry : Obligations.RtiUndoesEntry := by
  intro s hwf hram
  refine ⟨fun i hi => ?_, fun k hwait hdue hk => ?_, fun v => ?_⟩
  · rcases hi with rfl | rfl | rfl
    · exact rti_after_enter (k := .swi) rfl hwf hram _
    · exact rti_after_enter (k := .swi2) rfl hwf hram _
    · exact rti_after_enter (k := .swi3) rfl hwf hram _
  · have hentire : k.entire = true := by
      cases k
      case firq => exact absurd rfl hk
      all_goals rfl
    have hrti := rti_after_enter hentire (s := s.wake) (by rwa [State.wake, State.modCore_bd_ram, State.modCore_active])
      (by rwa [State.wake, State.modCore_core, State.modCore_myCfg]) (serviceCycles k)
    rw [State.wake, State.modCore_core] at hrti
    rwa [coreStep_service hwait hdue]
  · obtain ⟨t, hcwai, hholds, hwait⟩ := cwai_holds v hwf hram
    refine ⟨_, (exec_cwai v s).trans (perform_ok hcwai), fun k irq firq nmi armed => ?_⟩
    intro w hdue
    have hlines : t.SameStack w := (sameStack_tick t _).trans (sameStack_modCore _ fun _ => rfl)
    have hwaits : w.core.wait = .cwai := by rw [State.modCore_core, State.tick_core, hwait]
    exact rti_after_resume (hholds.of_sameStack hlines) rfl hwaits hdue

end Sys2Proof
end

section
/-! The registers the two boards own in their hardware windows: the watchdog service, the zero-cross status, and the two
ends of the sound latch. -/

namespace Sys2Proof.Machine

/-- A service reloads the counter; an expired watchdog becomes idle and any other is armed (60_exceptions.md R432). -/
theorem Controller.service_eq (k : Controller) (reload : Nat) : k.service reload =
    { k with wdState := if k.wdState = .expired then .idle else .armed, wdCounter := reload } := by
  unfold Controller.service
  cases k.wdState <;> rfl

section
variable {s : State} {off : Nat}

theorem hwWrite_watchdog (hselect : off ≠ (s.cfg.board .main).bankSelect) (h : off = s.cfg.watchdogAddr) (v : Byte) :
    hwWrite .main off v s =
      .ok () { s.setShadow .main off v with ctl := s.ctl.service s.cfg.watchdogReload } := by
  unfold hwWrite
  simp only [State.setShadow_cfg, State.setShadow_ctl, true_and]
  rw [if_neg hselect, if_pos h]

theorem hwWrite_soundData (hselect : off ≠ (s.cfg.board .main).bankSelect) (hwatchdog : off ≠ s.cfg.watchdogAddr)
    (h : off = s.cfg.soundDataAddr) (v : Byte) :
    hwWrite .main off v s = .ok () ((s.setShadow .main off v).writeLatch v) := by
  unfold hwWrite
  simp only [State.setShadow_cfg, true_and]
  rw [if_neg hselect, if_neg hwatchdog, if_pos h]

theorem State.hwRead_zeroCross (hselect : off ≠ (s.cfg.board .main).bankSelect) (h : off = s.cfg.zeroCrossAddr) :
    s.hwRead .main off = s.readZeroCross := by
  rw [State.hwRead, if_neg hselect, if_pos ⟨rfl, h⟩]

theorem State.hwRead_latch (hselect : off ≠ (s.cfg.board .sound).bankSelect) (h : off = s.cfg.latchReadAddr) :
    s.hwRead .sound off = s.readLatch := by
  rw [State.hwRead, if_neg hselect, if_neg (fun hz => nomatch hz.1), if_pos ⟨rfl, h⟩]

/-- The flag's bits, and the flag cleared in the mode that clears it (60_exceptions.md R441). -/
theorem State.readZeroCross_eq (s : State) : s.readZeroCross =
    (if s.ctl.zcFlag then s.cfg.zeroCrossMask else 0x00#8,
      if s.cfg.zeroCrossMode = .toggle then s else { s with ctl := { s.ctl with zcFlag := false } }) := by
  unfold State.readZeroCross
  cases s.cfg.zeroCrossMode <;> rfl

end

end Sys2Proof.Machine

namespace Sys2Proof

open Machine

/-- Settles O15: past the bank-select register the write is the watchdog's and the read the zero-cross detector's. -/
theorem watchdogAndZeroCross : Obligations.WatchdogAndZeroCross := by
  intro s a v hactive _ hselect hlow hhigh
  have hmy : s.myCfg = s.cfg.main := by rw [State.myCfg, hactive, Cfg.board]
  rw [← hmy] at hlow hhigh
  rw [memRead8_hw hlow hhigh, memWrite8_hw v hlow hhigh, hactive]
  refine ⟨fun hwatchdog _ => ?_, fun hzero => ?_⟩
  · rw [hwWrite_watchdog hselect hwatchdog, Controller.service_eq]
  · rw [State.hwRead_zeroCross hselect hzero, State.readZeroCross_eq]

/-- Settles O16: the write of one board's register and the read of the other's. -/
theorem soundLatch : Obligations.SoundLatch := by
  intro s a v
  refine ⟨fun hactive _ hdata hselect hwatchdog hlow hhigh => ?_, fun hactive _ hlatch hselect hlow hhigh => ?_⟩
  · have hmy : s.myCfg = s.cfg.main := by rw [State.myCfg, hactive, Cfg.board]
    rw [← hmy] at hlow hhigh
    rw [memWrite8_hw v hlow hhigh, hactive, hwWrite_soundData hselect hwatchdog hdata]
    rfl
  · have hmy : s.myCfg = s.cfg.sound := by rw [State.myCfg, hactive, Cfg.board]
    rw [← hmy] at hlow hhigh
    rw [memRead8_hw hlow hhigh, hactive, State.hwRead_latch hselect hlatch]
    rfl

end Sys2Proof
end

section
/-! Bytes that select no instruction: the decoder never asks for more than an instruction's five bytes, so they are fetched
one by one until they are refused. -/

namespace Sys2Proof

/-! ### How many bytes the decoder asks for -/

theorem idxByte_incomplete {f : Byte → Indexed} {bs : List Byte} (h : idxByte f bs = .incomplete) : bs.length < 1 := by
  match bs with
  | [] => exact Nat.zero_lt_one
  | _ :: _ => cases h

theorem idxWord_incomplete {f : Word → Indexed} {bs : List Byte} (h : idxWord f bs = .incomplete) : bs.length < 2 := by
  match bs with
  | [] | [_] => simp
  | _ :: _ :: _ => cases h

/-- A postbyte and at most two extension bytes (30_encoding.md R120 to R135). -/
theorem decodeIndexed_incomplete {bs : List Byte} (h : decodeIndexed bs = .incomplete) : bs.length < 3 := by
  cases bs with
  | nil => exact Nat.succ_pos 2
  | cons pb bs =>
    refine Nat.succ_lt_succ ?_
    rw [decodeIndexed] at h
    split at h
    · obtain hl | ⟨p, hl⟩ | ⟨f, hl⟩ | ⟨f, hl⟩ := decodeLayoutB_cases (pb.extractLsb' 0 4).toNat
        (pb.extractLsb' 5 2) (pb.getLsbD 4)
      · rw [hl] at h; cases h
      · rw [hl] at h; cases h
      · rw [hl] at h; exact Nat.lt_succ_of_lt (idxByte_incomplete h)
      · rw [hl] at h; exact idxWord_incomplete h
    · cases h

theorem decodeOperand_incomplete {f : Form} {bs : List Byte} (h : decodeOperand f bs = .incomplete) : bs.length < 3 := by
  match f, bs with
  | .byte _, [] | .word _, [] | .word _, [_] | .regs _, [] => simp
  | .inh _, _ | .byte _, _ :: _ | .word _, _ :: _ :: _ => cases h
  | .regs f, pb :: bs =>
    rw [decodeOperand, decodeRegs] at h
    split at h
    · split at h <;> cases h
    · cases h
  | .idx f, bs =>
    rw [decodeOperand] at h
    split at h
    · cases h
    · exact decodeIndexed_incomplete ‹_›
    · cases h

theorem decodePage_incomplete {rows : List (Byte × Form)} {err : DecodeError} {bs : List Byte}
    (h : decodePage rows err bs = .incomplete) : bs.length < 4 := by
  cases bs with
  | nil => exact Nat.succ_pos 3
  | cons b bs =>
    cases hl : lookupForm rows b with
    | none => rw [decodePage_none hl] at h; cases h
    | some f => rw [decodePage_some hl] at h; exact Nat.succ_lt_succ (decodeOperand_incomplete h)

/-- The decoder asks for no byte past the longest instruction (R110, R145). -/
theorem decode_incomplete {bs : List Byte} (h : decode bs = .incomplete) : bs.length < maxLength := by
  cases bs with
  | nil => exact Nat.succ_pos 4
  | cons b bs =>
    rw [decode] at h
    split at h
    · exact Nat.succ_lt_succ (decodePage_incomplete h)
    · split at h
      · exact Nat.succ_lt_succ (decodePage_incomplete h)
      · exact Nat.lt_succ_of_lt (decodePage_incomplete h)

/-- Bytes no proper beginning of which has an answer are no longer than an instruction. -/
theorem length_le_maxLength {bytes : List Byte}
    (h : ∀ front rest, bytes = front ++ rest → rest ≠ [] → decode front = .incomplete) : bytes.length ≤ maxLength := by
  refine Nat.le_of_not_lt fun hlong => ?_
  have hrest : bytes.drop maxLength ≠ [] := by
    rw [Ne, List.drop_eq_nil_iff]
    exact Nat.not_le_of_lt hlong
  have hfront := decode_incomplete (h _ _ (List.take_append_drop maxLength bytes).symm hrest)
  rw [List.length_take_of_le (Nat.le_of_lt hlong)] at hfront
  exact Nat.lt_irrefl _ hfront

end Sys2Proof

namespace Sys2Proof.Machine

/-! ### The fetch that is refused -/

theorem fetchFrom_invalid {bytes : List Byte} {why : DecodeError} (h : decode bytes = .invalid why) (start : Word)
    (fuel : Nat) (s : State) :
    fetchFrom start fuel bytes s = .error () { s with fatal := some (.invalidOpcode s.active start bytes) } := by
  cases fuel <;> simp only [fetchFrom, h, raise_apply]

/-- Bytes that are refused, and no beginning of which is, are fetched to the last one (60_exceptions.md R401). -/
theorem fetchInstr_invalid {s : State} {bytes : List Byte} {why : DecodeError} (hinvalid : decode bytes = .invalid why)
    (hincomplete : ∀ front rest, bytes = front ++ rest → rest ≠ [] → decode front = .incomplete)
    (hshows : s.shows s.core.pc bytes = true) (hplain : s.myCfg.plainRange s.core.pc bytes.length = true) :
    fetchInstr s = .error () { s.modCore (Core.skip bytes.length) with
      fatal := some (.invalidOpcode s.active s.core.pc bytes) } := by
  have hfuel : maxLength = maxLength - bytes.length + bytes.length :=
    (Nat.sub_add_cancel (length_le_maxLength hincomplete)).symm
  rw [fetchInstr, getCore_bind, hfuel, fetchFrom_shows (bytes := []) _ hincomplete hshows hplain,
    List.nil_append, fetchFrom_invalid hinvalid, State.modCore_active]

theorem instrStep_error {s t : State} {e : Unit} (h : fetchInstr s = .error e t) : instrStep s = .next t := by
  rw [instrStep, h]

end Sys2Proof.Machine

namespace Sys2Proof

open Machine

/-- Settles O7: the fetch of the machine's next instruction is refused at the last of the bytes. -/
theorem stepInvalidOpcode : Obligations.StepInvalidOpcode := by
  intro s bytes why hready hinvalid hincomplete hshows hplain
  exact (step_of_ready hready).trans (instrStep_error (fetchInstr_invalid hinvalid hincomplete hshows hplain))

end Sys2Proof
end

section
/-! The interrupt lines, the service of an interrupt and the waiting core. -/

namespace Sys2Proof.Machine

/-! ### The lines -/

/-- A redundant assertion is counted (60_exceptions.md R408). -/
theorem Core.irq_eq (c : Core) :
    c.irq = { c with pendingIRQ := true, missedIRQ := c.missedIRQ + c.pendingIRQ.toNat } := by
  unfold Core.irq
  cases c.pendingIRQ <;> rfl

theorem Core.firq_eq (c : Core) :
    c.firq = { c with pendingFIRQ := true, missedFIRQ := c.missedFIRQ + c.pendingFIRQ.toNat } := by
  unfold Core.firq
  cases c.pendingFIRQ <;> rfl

/-- Between stepping calls the next call of the host is made. -/
theorem step_hostCall {s : State} {focus : Board} {k : HostCall} {ks : List HostCall} (hfatal : s.fatal = none)
    (hlock : s.lock = .idle focus) (hhost : s.host = k :: ks) : step s = hostCall k { s with host := ks } := by
  simp only [step, hfatal, runningStep, hlock, idleMachineStep, hhost]

/-! ### The interrupt that is due -/

/-- NMI first, then an unmasked FIRQ, then an unmasked IRQ (R411). -/
theorem Core.due_eq (c : Core) (hasNmi : Bool) : c.due hasNmi =
    if hasNmi = true ∧ c.pendingNMI = true ∧ c.nmiArmed = true then some .nmi
    else if c.pendingFIRQ = true ∧ c.cc.f = false then some .firq
    else if c.pendingIRQ = true ∧ c.cc.i = false then some .irq
    else none := by
  simp only [Core.due, Bool.and_eq_true, Bool.not_eq_true', and_assoc]

theorem Core.anyPending_iff (c : Core) (hasNmi : Bool) : c.anyPending hasNmi = true ↔
    c.pendingIRQ = true ∨ c.pendingFIRQ = true ∨ (hasNmi = true ∧ c.pendingNMI = true) := by
  simp only [Core.anyPending, Bool.or_eq_true, Bool.and_eq_true, or_assoc]

/-- Nothing is due while nothing is pending. -/
theorem Core.due_eq_none_of_not_pending {c : Core} {hasNmi : Bool} (h : ¬ c.anyPending hasNmi = true) :
    c.due hasNmi = none := by
  rw [Core.anyPending_iff, not_or, not_or] at h
  obtain ⟨hirq, hfirq, hnmi⟩ := h
  rw [Core.due_eq, if_neg fun hdue => hnmi ⟨hdue.1, hdue.2.1⟩, if_neg fun hdue => hfirq hdue.1,
    if_neg fun hdue => hirq hdue.1]

/-! ### What the vectoring half of a service does to the core -/

theorem Core.vectored_nmi (c : Core) (pc : Word) : c.vectored .nmi pc =
    { c with pc := pc, pendingNMI := false, cc := { c.cc with f := true, i := true } } := by
  simp [Core.vectored, Core.clearLatch, Core.setMasks, Core.countService, Entry.setsI, Entry.setsF]

theorem Core.vectored_firq (c : Core) (pc : Word) : c.vectored .firq pc =
    { c with pc := pc, pendingFIRQ := false, cc := { c.cc with f := true, i := true }, firqCount := c.firqCount + 1 } := by
  simp [Core.vectored, Core.clearLatch, Core.setMasks, Core.countService, Entry.setsI, Entry.setsF]

theorem Core.vectored_irq (c : Core) (pc : Word) : c.vectored .irq pc =
    { c with pc := pc, pendingIRQ := false, cc := { c.cc with i := true }, irqCount := c.irqCount + 1 } := by
  simp [Core.vectored, Core.clearLatch, Core.setMasks, Core.countService, Entry.setsI, Entry.setsF]

/-- The three services at once: which latch is cleared, which mask is set, which service is counted (R412 to R414). -/
theorem Core.vectored_service {k : Entry} (hk : k = .nmi ∨ k = .firq ∨ k = .irq) (c : Core) (pc : Word) :
    c.vectored k pc = { c with
      pc := pc
      cc := { c.cc with i := true, f := c.cc.f || decide (k ≠ .irq) }
      pendingIRQ := c.pendingIRQ && decide (k ≠ .irq)
      pendingFIRQ := c.pendingFIRQ && decide (k ≠ .firq)
      pendingNMI := c.pendingNMI && decide (k ≠ .nmi)
      irqCount := c.irqCount + (decide (k = .irq)).toNat
      firqCount := c.firqCount + (decide (k = .firq)).toNat } := by
  rcases hk with rfl | rfl | rfl
  · rw [Core.vectored_nmi]; simp
  · rw [Core.vectored_firq]; simp
  · rw [Core.vectored_irq]; simp

theorem Entry.entire_eq (k : Entry) : k.entire = decide (k ≠ .firq) := by cases k <;> rfl

theorem entryFrame_eq (k : Entry) (c : Core) :
    entryFrame k c = if k = .firq then pushOrder c.pc ++ [c.cc.toByte] else fullFrame c := by cases k <;> rfl

/-! ### Steps of a core by its wait state -/

section
variable {s : State}

@[simp] theorem State.wake_myCfg (s : State) : s.wake.myCfg = s.myCfg := s.modCore_myCfg _

/-- A service whose pushes are taken (R412 to R414). -/
theorem coreStep_serviced {k : Entry} (hok : boardOk s.myCfg = true) (hwait : s.core.wait ≠ .cwai)
    (hdue : s.core.due s.cfg.hasNmi = some k)
    (haccepts : s.myCfg.acceptsPush s.core.s (entryFrame k (s.wake.modCore (Core.withE k.entire)).core) = true) :
    coreStep s = .next (((s.wake.stacked k).modCore fun c => c.vectored k (s.at16 k.vector)).tick
      (serviceCycles k s)) := by
  have henter := (enter_of_boardOk (s := s.wake) (by rwa [State.wake_myCfg]) k).accepted
    (by rw [State.wake_myCfg, State.wake, State.modCore_core]; exact haccepts)
  rw [State.wake, State.modCore_at16, ← State.wake] at henter
  rw [coreStep_service hwait hdue, serviceStep, runOp_ok henter]
  have hcfg : ((s.wake.stacked k).modCore fun c => c.vectored k (s.at16 k.vector)).cfg = s.cfg := by
    rw [State.modCore_cfg, State.stacked_cfg, State.wake, State.modCore_cfg]
  cases k <;> simp only [serviceCycles, hcfg]

/-- The end of a wait in `CWAI` (R421). -/
theorem coreStep_resumed {k : Entry} (hok : boardOk s.myCfg = true) (hwait : s.core.wait = .cwai)
    (hdue : s.core.due s.cfg.hasNmi = some k) :
    coreStep s = .next ((s.modCore fun c => Core.vectored { c with wait := .run } k (s.at16 k.vector)).tick
      s.cfg.cycles.resume) := by
  have hvector := takeVector_ok (s := s.wake) (by rwa [State.wake_myCfg]) k
  rw [State.wake, State.modCore_at16, State.modCore_modCore] at hvector
  rw [coreStep_resume hwait hdue, State.wake, runOp_ok hvector, State.modCore_cfg]

theorem coreStep_run (hwait : s.core.wait = .run) (hdue : s.core.due s.cfg.hasNmi = none) :
    coreStep s = instrStep s := by
  simp only [coreStep, hwait, runStep, hdue]

theorem coreStep_sync_idle (hwait : s.core.wait = .sync) (hpending : ¬ s.core.anyPending s.cfg.hasNmi = true) :
    coreStep s = idleStep s := by
  simp only [coreStep, hwait, syncStep, Core.due_eq_none_of_not_pending hpending, if_neg hpending]

theorem coreStep_sync_wake (hwait : s.core.wait = .sync) (hpending : s.core.anyPending s.cfg.hasNmi = true)
    (hdue : s.core.due s.cfg.hasNmi = none) : coreStep s = instrStep s.wake := by
  simp only [coreStep, hwait, syncStep, hdue, if_pos hpending]

theorem coreStep_cwai_idle (hwait : s.core.wait = .cwai) (hdue : s.core.due s.cfg.hasNmi = none) :
    coreStep s = idleStep s := by
  simp only [coreStep, hwait, cwaiStep, hdue]

end

end Sys2Proof.Machine

namespace Sys2Proof

open Machine

/-- Settles O43: the lines of a core, and the next call of the host that asserts each. -/
theorem interruptLines : Obligations.InterruptLines := by
  intro s b
  refine ⟨by rw [State.irq, State.modCoreOf, Core.irq_eq], by rw [State.firq, State.modCoreOf, Core.firq_eq], rfl, ?_⟩
  intro focus ks hfatal hlock u
  refine ⟨fun hhost => ?_, fun hhost => ?_, fun hhost => ?_, fun hhost hnmi => ?_, fun hhost hnmi => ?_⟩
  · exact step_hostCall hfatal hlock hhost
  · exact step_hostCall hfatal hlock hhost
  · rw [step_hostCall hfatal hlock hhost]
    cases b <;> rfl
  · rw [step_hostCall hfatal hlock hhost, hostCall, if_pos hnmi]
    cases b <;> rfl
  · rw [step_hostCall hfatal hlock hhost, hostCall, if_neg (by exact Bool.eq_false_iff.mp hnmi)]

/-- Settles O44: the interrupt that is due is entered from the woken core. -/
theorem interruptService : Obligations.InterruptService := by
  intro s k vector hok hwait c₀ nmi firq irq hcase s₁ frame haccepts
  have hdue : s.core.due s.cfg.hasNmi = some k ∧ vector = k.vector ∧ (k = .nmi ∨ k = .firq ∨ k = .irq) := by
    rw [Core.due_eq]
    rcases hcase with ⟨rfl, rfl, hnmi⟩ | ⟨rfl, rfl, hnmi, hfirq⟩ | ⟨rfl, rfl, hnmi, hfirq, hirq⟩
    · exact ⟨if_pos hnmi, rfl, .inl rfl⟩
    · exact ⟨by rw [if_neg hnmi, if_pos hfirq], rfl, .inr (.inl rfl)⟩
    · exact ⟨by rw [if_neg hnmi, if_neg hfirq, if_pos hirq], rfl, .inr (.inr rfl)⟩
  obtain ⟨hdue, rfl, hk⟩ := hdue
  have hs₁ : s.wake.modCore (Core.withE k.entire) = s₁ := by
    rw [State.wake, State.modCore_modCore, Entry.entire_eq]
    rfl
  have hframe : entryFrame k s₁.core = frame := entryFrame_eq k s₁.core
  have hstacked : s.wake.stacked k = s₁.pushed .s frame := by rw [State.stacked, hs₁, hframe]
  rw [coreStep_serviced hok hwait hdue (by rwa [hs₁, hframe]), hstacked]
  simp only [Core.vectored_service hk]
  rcases hk with rfl | rfl | rfl <;> rfl

/-- Settles O45: one lemma for each wait state and what is due in it. -/
theorem waitingCore : Obligations.WaitingCore := by
  intro s c₀ nmi firq irq pending awake
  have hdue : c₀.due s.cfg.hasNmi =
      if nmi then some .nmi else if firq then some .firq else if irq then some .irq else none := c₀.due_eq _
  have hpending : c₀.anyPending s.cfg.hasNmi = true ↔ pending := c₀.anyPending_iff _
  refine ⟨fun hwait hnmi hfirq hirq => ?_, fun hwait hno => ?_, fun hwait hsome hnmi hfirq hirq => ?_,
    fun hwait hnmi hfirq hirq => ?_, fun hwait hok hnmi => ?_, fun hwait hok hnmi hfirq => ?_,
    fun hwait hok hnmi hfirq hirq => ?_⟩
  · exact coreStep_run hwait (by rw [hdue, if_neg hnmi, if_neg hfirq, if_neg hirq])
  · exact coreStep_sync_idle hwait (mt hpending.mp hno)
  · exact coreStep_sync_wake hwait (hpending.mpr hsome) (by rw [hdue, if_neg hnmi, if_neg hfirq, if_neg hirq])
  · exact coreStep_cwai_idle hwait (by rw [hdue, if_neg hnmi, if_neg hfirq, if_neg hirq])
  · rw [coreStep_resumed hok hwait (k := .nmi) (by rw [hdue, if_pos hnmi])]
    simp only [Core.vectored_nmi]
    rfl
  · rw [coreStep_resumed hok hwait (k := .firq) (by rw [hdue, if_neg hnmi, if_pos hfirq])]
    simp only [Core.vectored_firq]
    rfl
  · rw [coreStep_resumed hok hwait (k := .irq) (by rw [hdue, if_neg hnmi, if_neg hfirq, if_pos hirq])]
    simp only [Core.vectored_irq]
    rfl

end Sys2Proof
end

section
/-! The loops of the timing controller and of the timer hack, which the rules write pass by pass: the model's quotients and
remainders give the same. Then the clock scaling, which hands each remainder on. -/

namespace Sys2Proof.Machine

/-! ### A counter that gives up whole periods -/

/-- What a change keeps, the change made `n` times keeps. -/
theorem iterate_keeps {α : Type} {f : State → State} {g : State → α} (h : ∀ s, g (f s) = g s) (n : Nat) (s : State) :
    g (iterate f n s) = g s := by
  induction n generalizing s with
  | zero => rfl
  | succ n ih => exact (ih (f s)).trans (h s)

/-- A loop with a counter: while `count` holds a whole `period`, the period is taken off and the `event` happens. The event
neither looks at the counter nor changes it. -/
structure PeriodLoop (count period : State → Nat) (set : State → Nat → State) (event : State → State)
    (loop : Nat → State → State) : Prop where
  set_count : ∀ s, set s (count s) = s
  count_set : ∀ s n, count (set s n) = n
  set_set : ∀ s n m, set (set s n) m = set s m
  event_set : ∀ s n, event (set s n) = set (event s) n
  period_set : ∀ s n, period (set s n) = period s
  period_event : ∀ s, period (event s) = period s
  loop_zero : ∀ s, loop 0 s = s
  loop_succ : ∀ fuel s,
    loop (fuel + 1) s = if period s ≤ count s then loop fuel (event (set s (count s - period s))) else s

/-- With enough passes the loop makes as many events as whole periods fit, and leaves the remainder (60_exceptions.md R431,
R463). -/
theorem PeriodLoop.eq_iterate {count period : State → Nat} {set : State → Nat → State} {event : State → State}
    {loop : Nat → State → State} (h : PeriodLoop count period set event loop) (fuel : Nat) {s : State}
    (hpos : 1 ≤ period s) (hfuel : count s ≤ fuel) :
    loop fuel s = iterate event (count s / period s) (set s (count s % period s)) := by
  have hdone {s : State} (hlt : count s < period s) :
      iterate event (count s / period s) (set s (count s % period s)) = s := by
    rw [Nat.div_eq_of_lt hlt, Nat.mod_eq_of_lt hlt, h.set_count, iterate]
  induction fuel generalizing s with
  | zero => rw [h.loop_zero, hdone (by omega)]
  | succ fuel ih =>
    rw [h.loop_succ]
    split
    · next hle =>
      have hcount : count (event (set s (count s - period s))) = count s - period s := by rw [h.event_set, h.count_set]
      have hperiod : period (event (set s (count s - period s))) = period s := by rw [h.period_event, h.period_set]
      rw [ih (by omega) (by omega), hcount, hperiod, Nat.div_eq_sub_div hpos hle, Nat.mod_eq_sub_mod hle, iterate,
        h.event_set, h.event_set, h.set_set]
    · next hlt => exact (hdone (Nat.lt_of_not_le hlt)).symm

/-! ### The three loops -/

/-- The zero-cross counter replaced. -/
def State.setZcCounter (s : State) (n : Nat) : State := { s with ctl := { s.ctl with zcCounter := n } }

/-- The periodic counter replaced. -/
def State.setIrqCounter (s : State) (n : Nat) : State := { s with ctl := { s.ctl with irqCounter := n } }

/-- The timer hack's counter replaced. -/
def State.setHackCounter (s : State) (n : Nat) : State := { s with firqHackCounter := n }

/-- `zeroCrossEvent()` with the mode as a condition (R440). -/
theorem State.zeroCrossEvent_eq (s : State) : s.zeroCrossEvent =
    (let u := { s with ctl := { s.ctl with
      zcFlag := if s.cfg.zeroCrossMode = .toggle then !s.ctl.zcFlag else true
      zcToggleCount := s.ctl.zcToggleCount + 1 } }
    if s.cfg.zeroCrossRaisesIrq then u.irq .main else u) := by
  unfold State.zeroCrossEvent
  cases s.cfg.zeroCrossMode <;> rfl

/-- What an assertion of a line or a change of the zero-cross flag leaves, a zero-cross event leaves. -/
theorem zeroCrossEvent_keeps {α : Type} {g : State → α} (hirq : ∀ s, g (s.irq .main) = g s)
    (hctl : ∀ (s : State) (flag : Bool) (n : Nat),
      g { s with ctl := { s.ctl with zcFlag := flag, zcToggleCount := n } } = g s) (s : State) :
    g s.zeroCrossEvent = g s := by
  rw [State.zeroCrossEvent_eq]
  dsimp only
  split
  · rw [hirq, hctl]
  · rw [hctl]

theorem periodicIrq_keeps {α : Type} {g : State → α} (hirq : ∀ s, g (s.irq .main) = g s) (s : State) :
    g s.periodicIrq = g s := by
  unfold State.periodicIrq
  split
  · exact hirq s
  · rfl

theorem periodLoop_zeroCross : PeriodLoop (fun s => s.ctl.zcCounter) (fun s => s.cfg.zeroCrossPeriod) State.setZcCounter
    State.zeroCrossEvent zeroCrossLoop where
  set_count _ := rfl
  count_set _ _ := rfl
  set_set _ _ _ := rfl
  event_set s n := by
    simp only [State.zeroCrossEvent_eq, State.setZcCounter]
    split <;> rfl
  period_set _ _ := rfl
  period_event := zeroCrossEvent_keeps (g := fun s => s.cfg.zeroCrossPeriod) (fun _ => rfl) fun _ _ _ => rfl
  loop_zero _ := rfl
  loop_succ fuel s := by
    simp only [State.zeroCrossEvent_eq]
    rfl

theorem periodLoop_periodic : PeriodLoop (fun s => s.ctl.irqCounter) (fun s => s.cfg.irqPeriod) State.setIrqCounter
    State.periodicIrq periodicLoop where
  set_count _ := rfl
  count_set _ _ := rfl
  set_set _ _ _ := rfl
  event_set s n := (apply_ite (State.setIrqCounter · n) (s.ctl.periodicIrqEnable = true) (s.irq .main) s).symm
  period_set _ _ := rfl
  period_event := periodicIrq_keeps (g := fun s => s.cfg.irqPeriod) fun _ => rfl
  loop_zero _ := rfl
  loop_succ _ _ := rfl

theorem periodLoop_timerHack : PeriodLoop (fun s => s.firqHackCounter) (fun s => s.cfg.firqHackTicks)
    State.setHackCounter (fun s => s.firq .sound) timerHackLoop where
  set_count _ := rfl
  count_set _ _ := rfl
  set_set _ _ _ := rfl
  event_set _ _ := rfl
  period_set _ _ := rfl
  period_event _ := rfl
  loop_zero _ := rfl
  loop_succ _ _ := rfl

/-! ### `advance(t)` and the end of a sub-step -/

/-- The watchdog counts down while armed, and expires when it cannot (R431, R432). -/
theorem Controller.watchdog_eq (k : Controller) (t : Nat) : k.watchdog t =
    if k.wdState = .armed then
      if t < k.wdCounter then { k with wdCounter := k.wdCounter - t }
      else { k with wdCounter := 0, wdState := .expired, wdExpiredCount := k.wdExpiredCount + 1 }
    else k := by
  unfold Controller.watchdog
  cases k.wdState <;> rfl

section
variable {s : State} {t fuel : Nat}

theorem State.advanceZeroCross_eq_loop (hpos : 1 ≤ s.cfg.zeroCrossPeriod) (hfuel : s.ctl.zcCounter + t ≤ fuel) :
    s.advanceZeroCross t = zeroCrossLoop fuel (s.setZcCounter (s.ctl.zcCounter + t)) :=
  (periodLoop_zeroCross.eq_iterate fuel (s := s.setZcCounter (s.ctl.zcCounter + t)) hpos hfuel).symm

theorem State.advanceIrq_eq_loop (hpos : 1 ≤ s.cfg.irqPeriod) (hfuel : s.ctl.irqCounter + t ≤ fuel) :
    s.advanceIrq t = periodicLoop fuel (s.setIrqCounter (s.ctl.irqCounter + t)) :=
  (periodLoop_periodic.eq_iterate fuel (s := s.setIrqCounter (s.ctl.irqCounter + t)) hpos hfuel).symm

theorem State.endSound_eq_loop (hpos : 1 ≤ s.cfg.firqHackTicks) (hfuel : s.firqHackCounter + t ≤ fuel) :
    s.endSound t = timerHackLoop fuel ((s.record (.fmAdvance t)).setHackCounter (s.firqHackCounter + t)) :=
  (periodLoop_timerHack.eq_iterate fuel
    (s := (s.record (.fmAdvance t)).setHackCounter (s.firqHackCounter + t)) hpos hfuel).symm

end

/-! ### What the controller and the end of a sub-step leave -/

section
variable {α : Type} {g : State → α}

/-- What the main core's IRQ line and the zero-cross detector's fields are no part of. -/
theorem State.advanceZeroCross_keeps (hirq : ∀ s, g (s.irq .main) = g s)
    (hctl : ∀ (s : State) (count : Nat) (flag : Bool) (toggles : Nat),
      g { s with ctl := { s.ctl with zcCounter := count, zcFlag := flag, zcToggleCount := toggles } } = g s)
    (s : State) (t : Nat) : g (s.advanceZeroCross t) = g s :=
  (iterate_keeps (zeroCrossEvent_keeps hirq fun s => hctl s s.ctl.zcCounter) _ _).trans
    (hctl s _ s.ctl.zcFlag s.ctl.zcToggleCount)

/-- What the main core's IRQ line and the controller are no part of. -/
theorem State.advance_keeps (hirq : ∀ s, g (s.irq .main) = g s) (hctl : ∀ (s : State) k, g { s with ctl := k } = g s)
    (s : State) (t : Nat) : g (s.advance t) = g s :=
  calc g (s.advance t) = g (({ s with ctl := s.ctl.watchdog t } : State).advanceZeroCross t) :=
        (iterate_keeps (periodicIrq_keeps hirq) _ _).trans (hctl _ _)
    _ = g { s with ctl := s.ctl.watchdog t } := State.advanceZeroCross_keeps hirq (fun s _ _ _ => hctl s _) _ _
    _ = g s := hctl _ _

/-- What the sound core's FIRQ line, the timer hack's counter and the history of the devices are no part of. -/
theorem State.endSound_keeps (hfirq : ∀ s, g (s.firq .sound) = g s)
    (hcount : ∀ (s : State) n dev, g { s with firqHackCounter := n, dev := dev } = g s) (s : State) (ts : Nat) :
    g (s.endSound ts) = g s :=
  (iterate_keeps hfirq _ _).trans (hcount s _ _)

end

/-! ### Clock scaling -/

/-- A remainder handed on is divided with what follows. -/
theorem div_add_mod_div (x y : Nat) {d : Nat} (hd : 0 < d) : x / d + (x % d + y) / d = (x + y) / d := by
  have hxy : x + y = x % d + y + d * (x / d) := by
    have := Nat.mod_add_div x d
    omega
  rw [hxy, Nat.add_mul_div_left _ _ hd, Nat.add_comm]

/-- The budgets of sub-steps that start with a carry: the whole, carry included, divided once (R462). -/
theorem sum_budgets (ts : List Nat) {s : State} (hcarry : s.soundCarry < s.cfg.soundClkDen) :
    (budgets s ts).sum = (s.soundCarry + ts.sum * s.cfg.soundClkNum) / s.cfg.soundClkDen := by
  have hden : 0 < s.cfg.soundClkDen := Nat.zero_lt_of_lt hcarry
  induction ts generalizing s with
  | nil => simpa [budgets] using (Nat.div_eq_of_lt hcarry).symm
  | cons t ts ih =>
    rw [budgets, List.sum_cons, ih (s := s.carrySound t) (Nat.mod_lt _ hden) hden, List.sum_cons, Nat.add_mul,
      ← Nat.add_assoc]
    exact div_add_mod_div _ _ hden

end Sys2Proof.Machine

namespace Sys2Proof

open Machine

/-- Settles O47: each counter's loop is its quotient and its remainder, and the one does not see the other's counter. -/
theorem controllerAdvance : Obligations.ControllerAdvance := by
  intro s t fuel hticks hzero hirq
  obtain ⟨-, hzeroPos, hirqPos, -⟩ := ticksOk_iff.mp hticks
  intro wd s₁
  have hwd : wd = s.ctl.watchdog t := (Controller.watchdog_eq s.ctl t).symm
  have hs₁ : State.advanceZeroCross { s with ctl := wd } t = s₁ :=
    State.advanceZeroCross_eq_loop hzeroPos (by rw [hwd, Controller.watchdog_zcCounter]; exact hzero)
  have hcfg : s₁.cfg = s.cfg := by
    rw [← hs₁]
    exact State.advanceZeroCross_keeps (g := State.cfg) (fun _ => rfl) (fun _ _ _ _ => rfl) _ _
  have hcounter : s₁.ctl.irqCounter = wd.irqCounter := by
    rw [← hs₁]
    exact State.advanceZeroCross_keeps (g := fun u => u.ctl.irqCounter) (fun _ => rfl) (fun _ _ _ _ => rfl) _ _
  rw [hwd, Controller.watchdog_irqCounter] at hcounter
  rw [State.advance, ← hwd, hs₁]
  exact State.advanceIrq_eq_loop (by rwa [hcfg]) (by rwa [hcounter])

/-- Settles O48: a carry of 0 is the case that adds nothing. -/
theorem soundBudgetSum : Obligations.SoundBudgetSum := by
  intro s ts hden hcarry
  rw [sum_budgets ts (by rwa [hcarry]), hcarry, Nat.zero_add]

/-- Settles O49: the timer hack's loop is its quotient and its remainder. -/
theorem timerHack : Obligations.TimerHack := fun _ _ _ hpos hfuel => State.endSound_eq_loop hpos hfuel

end Sys2Proof
end

section
/-! What a core's step leaves of the host's call and of the cycle lock, and the cycles it counts: an instruction is one
operation that counts none, and its cycles are counted at its end. By the documented table they are at most 20. -/

namespace Sys2Proof.Machine

/-! ### The host's call and the cycle lock -/

/-- The configuration, the host's call and its queue, the cycle lock and both cores' cycle counts are the same. -/
structure State.SameCall (s t : State) : Prop where
  cfg : t.cfg = s.cfg := by rfl
  lock : t.lock = s.lock := by rfl
  host : t.host = s.host := by rfl
  ret : t.ret = s.ret := by rfl
  soundCarry : t.soundCarry = s.soundCarry := by rfl
  firqHackCounter : t.firqHackCounter = s.firqHackCounter := by rfl
  boardTicks : t.boardTicks = s.boardTicks := by rfl
  ticks : ∀ b, (t.coreOf b).tickCount = (s.coreOf b).tickCount := by intro b; cases b <;> rfl

section
variable {s t u : State}

theorem State.SameCall.trans (h : s.SameCall t) (k : t.SameCall u) : s.SameCall u where
  cfg := k.cfg.trans h.cfg
  lock := k.lock.trans h.lock
  host := k.host.trans h.host
  ret := k.ret.trans h.ret
  soundCarry := k.soundCarry.trans h.soundCarry
  firqHackCounter := k.firqHackCounter.trans h.firqHackCounter
  boardTicks := k.boardTicks.trans h.boardTicks
  ticks b := (k.ticks b).trans (h.ticks b)

theorem State.SameCall.active (h : s.SameCall t) : t.active = s.active := by rw [State.active, h.lock, State.active]

theorem Core.SameButLines.tickCount {c d : Core} (h : c.SameButLines d) : d.tickCount = c.tickCount := by
  obtain ⟨_, _, _, _, _, _, rfl⟩ := h
  rfl

theorem State.ReadEffect.sameCall (h : s.ReadEffect t) : s.SameCall t := by
  have hticks (b : Board) := (h.coreOf b).tickCount
  obtain ⟨_, _, _, _, _, _, -, -, rfl⟩ := h
  exact { ticks := hticks }

theorem State.WriteEffect.sameCall (h : s.WriteEffect t) : s.SameCall t where
  cfg := h.cfg
  lock := h.lock
  host := h.host
  ret := h.ret
  soundCarry := h.soundCarry
  firqHackCounter := h.firqHackCounter
  boardTicks := h.boardTicks
  ticks b := (h.cores b).tickCount

end

/-- A change of the stepping core that counts no cycle. -/
theorem sameCall_modCore (s : State) {f : Core → Core} (hf : ∀ c, (f c).tickCount = c.tickCount) :
    s.SameCall (s.modCore f) where
  cfg := s.modCore_cfg f
  lock := s.modCore_lock f
  host := s.modCore_host f
  ret := s.modCore_ret f
  soundCarry := s.modCore_soundCarry f
  firqHackCounter := s.modCore_firqHackCounter f
  boardTicks := s.modCore_boardTicks f
  ticks b := by
    by_cases hb : b = s.active
    · rw [hb, State.modCore_coreOf, hf, State.core]
    · rw [State.modCore_coreOf_other _ _ hb]

theorem sameCall_busRead (b : Board) (a : Nat) (s : State) : s.SameCall (after (busRead b a s)) := by
  unfold busRead
  split
  · exact (s.readEffect_hwRead b _).sameCall
  · exact {}
  · exact {}

theorem sameCall_hwWrite (b : Board) (off : Nat) (v : Byte) (s : State) : s.SameCall (after (hwWrite b off v s)) := by
  have hshadow : s.SameCall (s.setShadow b off v) := by cases b <;> exact {}
  unfold hwWrite
  refine hshadow.trans ?_
  dsimp only
  split
  · unfold selectBank
    split
    · cases b <;> exact {}
    · exact {}
  · split
    · exact {}
    · split
      · exact (State.writeEffect_writeLatch _ v).sameCall
      · exact (State.writeEffect_portWrite _ b off v).sameCall

/-- A bus write of either board, the host's own among them. -/
theorem sameCall_busWrite (b : Board) (a : Nat) (v : Byte) (s : State) : s.SameCall (after (busWrite b a v s)) := by
  unfold busWrite
  split
  · cases b <;> exact {}
  · exact sameCall_hwWrite b _ v s
  · exact {}
  · exact {}

/-- No part of a step but the count of its cycles moves the host's call or the cycle lock. -/
theorem stepRel_sameCall : StepRel true State.SameCall where
  refl _ := {}
  trans := State.SameCall.trans
  core s _ hf := sameCall_modCore s fun c => (hf c).2.2
  read s a _ := sameCall_busRead s.active a s
  write _ s a v := sameCall_busWrite s.active a v s
  fatal _ _ := {}

/-! ### Cycles counted -/

theorem State.tick_coreOf_ticks (s : State) (n : Nat) (b : Board) :
    ((s.tick n).coreOf b).tickCount = (s.coreOf b).tickCount + if b = s.active then n else 0 := by
  by_cases hb : b = s.active
  · rw [hb, State.tick, State.modCore_coreOf, if_pos rfl, State.core]
  · rw [State.tick, State.modCore_coreOf_other _ _ hb, if_neg hb, Nat.add_zero]

theorem State.SameCall.tick {s t : State} (h : s.SameCall t) (n : Nat) : (s.tick n).SameCall (t.tick n) where
  cfg := by simpa using h.cfg
  lock := by simpa using h.lock
  host := by simpa using h.host
  ret := by simpa using h.ret
  soundCarry := by simpa using h.soundCarry
  firqHackCounter := by simpa using h.firqHackCounter
  boardTicks := by simpa using h.boardTicks
  ticks b := by rw [State.tick_coreOf_ticks, State.tick_coreOf_ticks, h.ticks, h.active]

theorem State.tick_zero (s : State) : s.tick 0 = s := s.modCore_id

/-- The next state of a core's step: `d` cycles are counted, the host's call and the cycle lock stay, and by the documented
table (30_encoding.md R150) `d` is at most 20. -/
structure State.Counts (s t : State) (d : Nat) : Prop where
  sameCall : (s.tick d).SameCall t
  le_twenty : s.cfg.cycles = Config.mc6809Cycles → d ≤ 20

/-- A step that always answers such a state. -/
def Counted (step : State → Out) : Prop := ∀ s, ∃ t d, step s = .next t ∧ s.Counts t d

section
variable {s t : State} {d : Nat}

theorem State.Counts.cfg (h : s.Counts t d) : t.cfg = s.cfg := h.sameCall.cfg.trans (s.tick_cfg d)

theorem State.Counts.lock (h : s.Counts t d) : t.lock = s.lock := h.sameCall.lock.trans (s.tick_lock d)

theorem State.Counts.boardTicks (h : s.Counts t d) : t.boardTicks = s.boardTicks :=
  h.sameCall.boardTicks.trans (s.tick_boardTicks d)

/-- The stepping core's count grows by `d`, the other one's not at all. -/
theorem State.Counts.ticks (h : s.Counts t d) (b : Board) :
    (t.coreOf b).tickCount = (s.coreOf b).tickCount + if b = s.active then d else 0 :=
  (h.sameCall.ticks b).trans (s.tick_coreOf_ticks d b)

theorem State.Counts.ticks_own (h : s.Counts t d) {b : Board} (hb : b = s.active) :
    (t.coreOf b).tickCount = (s.coreOf b).tickCount + d := by rw [h.ticks, if_pos hb]

theorem State.Counts.ticks_other (h : s.Counts t d) {b : Board} (hb : b ≠ s.active) :
    (t.coreOf b).tickCount = (s.coreOf b).tickCount := by rw [h.ticks, if_neg hb, Nat.add_zero]

theorem State.Counts.used (h : s.Counts t d) : used s.active s t = d := by
  rw [Machine.used, h.ticks_own rfl, Nat.add_sub_cancel_left]

/-- What comes before counts no cycle. -/
theorem State.Counts.after {r : State} (h : s.Counts t d) (hr : r.SameCall s) : r.Counts t d :=
  ⟨(hr.tick d).trans h.sameCall, fun hcycles => h.le_twenty (by rw [hr.cfg, hcycles])⟩

theorem State.SameCall.counts (h : s.SameCall t) : s.Counts t 0 := ⟨by rwa [State.tick_zero], fun _ => Nat.zero_le _⟩

end

/-- An operation framed by a count of cycles (60_exceptions.md R419). -/
theorem counted_runOp {cycles : State → Nat} {m : Op Unit} (hm : ∀ {Q}, StepSim true Q → Op.Sim Q m)
    (hle : ∀ s, s.cfg.cycles = Config.mc6809Cycles → cycles s ≤ 20) : Counted (runOp cycles m) := by
  intro s
  have hsame := stepRel_sameCall.op hm s
  cases hrun : m s with
  | ok x t =>
    have hsame : s.SameCall t := by rwa [hrun] at hsame
    exact ⟨_, _, runOp_ok hrun, hsame.tick _, fun hcycles => hle t (by rw [hsame.cfg, hcycles])⟩
  | error e t =>
    have hsame : s.SameCall t := by rwa [hrun] at hsame
    exact ⟨_, _, runOp_error hrun, hsame.counts⟩

end Sys2Proof.Machine
end

section
/-! The documented cycle table: no instruction takes more than 20 cycles. -/

namespace Sys2Proof.Machine

open Config (mc6809Cycles)

/-! ### The table -/

theorem mem_of_lookup_eq_some {l : List (Nat × Nat)} {key n : Nat} (h : l.lookup key = some n) : (key, n) ∈ l := by
  induction l with
  | nil => cases h
  | cons row l ih =>
    obtain ⟨k, m⟩ := row
    rw [List.lookup_cons] at h
    split at h
    · next heq =>
      cases h
      rw [eq_of_beq heq]
      exact List.mem_cons_self
    · exact List.mem_cons_of_mem _ (ih h)

/-- A bound on the rows of the `cycles` column that a condition picks bounds the opcodes it picks. -/
theorem opcode_le_of_rows {n : Nat} {p : Nat → Bool}
    (hrows : (mc6809Cycles.base.all fun row => !p row.1 || decide (row.2 ≤ n)) = true) {key : Nat} (hkey : p key = true) :
    mc6809Cycles.opcode key ≤ n := by
  unfold CycleTable.opcode
  cases hrow : mc6809Cycles.base.lookup key with
  | none => exact Nat.zero_le _
  | some m => simpa [hkey] using List.all_eq_true.mp hrows _ (mem_of_lookup_eq_some hrow)

/-- The longest rows are those of `CWAI SWI2 SWI3` (30_encoding.md R140 to R142). -/
theorem opcode_le_twenty (key : Nat) : mc6809Cycles.opcode key ≤ 20 :=
  opcode_le_of_rows (p := fun _ => true) (by decide +kernel) rfl

/-- The rows from `30` to `3B` and from `40` on, without `SWI2` and `SWI3`: all that may add cycles to their column stand
there. -/
def shortRow (key : Nat) : Bool :=
  Nat.ble 0x30 key && Nat.ble key 0x3B || Nat.ble 0x40 key && Nat.ble key 0x102F ||
    Nat.ble 0x1080 key && Nat.ble key 0x10FF || Nat.ble 0x1180 key

theorem opcode_le_eight {key : Nat} (h : shortRow key = true) : mc6809Cycles.opcode key ≤ 8 :=
  opcode_le_of_rows (by decide +kernel) h

/-- The longest addend of a postbyte is that of an indirect 16-bit offset from PC (R151). -/
theorem postbyteCycles_le (pb : Nat) : Config.postbyteCycles pb ≤ 8 := by
  unfold Config.postbyteCycles
  split
  · decide
  · dsimp only
    repeat' split
    all_goals decide

theorem indexed_le_eight (pb : Byte) : mc6809Cycles.indexed pb ≤ 8 := by
  have hentries : ∀ n ∈ mc6809Cycles.postbyte, n ≤ 8 := by
    intro n hn
    obtain ⟨b, -, rfl⟩ := List.mem_map.mp hn
    exact postbyteCycles_le b
  rw [CycleTable.indexed, List.getD_eq_getElem?_getD]
  cases hentry : mc6809Cycles.postbyte[pb.toNat]? with
  | none => exact Nat.zero_le _
  | some n => exact hentries n (List.mem_of_getElem? hentry)

theorem stackBytes_le_twelve (m : Byte) : stackBytes m ≤ 12 := by
  have hbit (i : Nat) : (m.getLsbD i).toNat ≤ 1 := Bool.toNat_le _
  have := hbit 0; have := hbit 1; have := hbit 2; have := hbit 3
  have := hbit 4; have := hbit 5; have := hbit 6; have := hbit 7
  unfold stackBytes
  omega

/-! ### Addends -/

/-- What may be added to an opcode's column: nothing, or at most 12 cycles to a short row. -/
def AddsTo (key n : Nat) : Prop := n = 0 ∨ shortRow key = true ∧ n ≤ 12

theorem AddsTo.total_le {key n : Nat} (h : AddsTo key n) : mc6809Cycles.opcode key + n ≤ 20 := by
  rcases h with rfl | ⟨hrow, hn⟩
  · exact opcode_le_twenty key
  · have := opcode_le_eight hrow
    omega

section
variable {key : Nat} {c : Cfg}

theorem addsTo_indexed (hc : c.cycles = mc6809Cycles) (hrow : shortRow key = true) (pb : Byte) :
    AddsTo key (c.cycles.indexed pb) :=
  .inr ⟨hrow, by rw [hc]; exact Nat.le_trans (indexed_le_eight pb) (by decide)⟩

/-- Only an indexed operand adds cycles (R150). -/
theorem addsTo_memOp (hc : c.cycles = mc6809Cycles) {m : MemOp} (hrow : ∀ p, m = .idx p → shortRow key = true) :
    AddsTo key (m.addend c) := by
  cases m with
  | idx p => exact addsTo_indexed hc (hrow p rfl) _
  | dir a => exact .inl rfl
  | ext a => exact .inl rfl

theorem addsTo_src8 (hc : c.cycles = mc6809Cycles) {src : Src8} (hrow : ∀ p, src = .mem (.idx p) → shortRow key = true) :
    AddsTo key (src.addend c) := by
  cases src with
  | imm v => exact .inl rfl
  | mem m => exact addsTo_memOp hc fun p hm => hrow p (by rw [hm])

theorem addsTo_src16 (hc : c.cycles = mc6809Cycles) {src : Src16}
    (hrow : ∀ p, src = .mem (.idx p) → shortRow key = true) : AddsTo key (src.addend c) := by
  cases src with
  | imm v => exact .inl rfl
  | mem m => exact addsTo_memOp hc fun p hm => hrow p (by rw [hm])

theorem addsTo_stack {s : State} (hc : s.cfg.cycles = mc6809Cycles) (hrow : shortRow key = true) (m : Byte) :
    AddsTo key (stackAddend m s) := by
  refine .inr ⟨hrow, ?_⟩
  rw [stackAddend, hc, show mc6809Cycles.perByte = 1 from rfl, Nat.one_mul]
  exact stackBytes_le_twelve m

theorem addsTo_long {s : State} (hc : s.cfg.cycles = mc6809Cycles) (k : Cond) (o : Word) :
    AddsTo (Instr.longBranch k o).opcode (longAddend k s) := by
  have htaken : takenAddend k s ≤ 12 := by
    unfold takenAddend
    split
    · rw [hc]; decide
    · exact Nat.zero_le _
  cases k
  case ra => exact .inl rfl
  all_goals exact .inr ⟨rfl, htaken⟩

theorem addsTo_rti {s : State} (hc : s.cfg.cycles = mc6809Cycles) : AddsTo 0x3B (rtiAddend s) := by
  refine .inr ⟨rfl, ?_⟩
  unfold rtiAddend
  split
  · rw [hc]; decide
  · exact Nat.zero_le _

end

/-! ### Every instruction -/

theorem counted_perform {opcode : Nat} {addend : State → Nat} {m : Op Unit}
    (hm : ∀ {Q}, StepSim true Q → Op.Sim Q m)
    (hadds : ∀ s : State, s.cfg.cycles = mc6809Cycles → AddsTo opcode (addend s)) :
    Counted (perform opcode addend m) :=
  counted_runOp hm fun s hc => by rw [hc]; exact (hadds s hc).total_le

theorem counted_noAddend (opcode : Nat) {m : Op Unit} (hm : ∀ {Q}, StepSim true Q → Op.Sim Q m) :
    Counted (perform opcode noAddend m) :=
  counted_perform hm fun _ _ => .inl rfl

/-- An inherent instruction that changes registers and flags. -/
theorem counted_regs (opcode : Nat) {f : Core → Core} (h : ∀ c,
    (f c).pendingNMI = c.pendingNMI ∧ (f c).nmiArmed = c.nmiArmed ∧ (f c).tickCount = c.tickCount) :
    Counted (perform opcode noAddend (modifyCore f)) :=
  counted_noAddend opcode fun hS => .regs hS h

/-- Every instruction is one operation that counts no cycle, and its cycles after it. -/
theorem counted_exec (i : Instr) : Counted (exec i) := by
  induction i using Instr.byFamily with
  | bin8 o r src =>
    rw [funext (exec_bin8 o r src)]
    exact counted_perform (fun hS => sim_bin8 hS o r src) fun s hc =>
      addsTo_src8 hc (by rintro p rfl; cases o <;> cases r <;> rfl)
  | load16 r src =>
    rw [funext (exec_load16 r src)]
    exact counted_perform (fun hS => sim_load16 hS r src) fun s hc => addsTo_src16 hc (by rintro p rfl; cases r <;> rfl)
  | cmp16 r src =>
    rw [funext (exec_cmp16 r src)]
    exact counted_perform (fun hS => sim_cmp16 hS r src) fun s hc => addsTo_src16 hc (by rintro p rfl; cases r <;> rfl)
  | addD src =>
    rw [funext (exec_addD src)]
    exact counted_perform (fun hS => sim_addD hS src) fun s hc => addsTo_src16 hc (by rintro p rfl; rfl)
  | subD src =>
    rw [funext (exec_subD src)]
    exact counted_perform (fun hS => sim_subD hS src) fun s hc => addsTo_src16 hc (by rintro p rfl; rfl)
  | store8 r m =>
    rw [funext (exec_store8 r m)]
    exact counted_perform (fun hS => sim_store8 hS r m) fun s hc => addsTo_memOp hc (by rintro p rfl; cases r <;> rfl)
  | store16 r m =>
    rw [funext (exec_store16 r m)]
    exact counted_perform (fun hS => sim_store16 hS r m) fun s hc => addsTo_memOp hc (by rintro p rfl; cases r <;> rfl)
  | lea r p =>
    rw [funext (exec_lea r p)]
    exact counted_perform (fun hS => sim_lea hS r p) fun s hc => addsTo_indexed hc (by cases r <;> rfl) _
  | un8Acc o r =>
    rw [funext (exec_un8Acc o r)]
    exact counted_noAddend _ fun hS => sim_un8Acc hS o r
  | un8Mem o m =>
    rw [funext (exec_un8Mem o m)]
    exact counted_perform (fun hS => sim_un8Mem hS o m) fun s hc => addsTo_memOp hc (by rintro p rfl; cases o <;> rfl)
  | branch k o =>
    rw [funext (exec_branch k o)]
    exact counted_noAddend _ fun hS => sim_branch hS k _
  | longBranch k o =>
    rw [funext (exec_longBranch k o)]
    exact counted_perform (fun hS => sim_branch hS k o) fun s hc => addsTo_long hc k o
  | jump m =>
    rw [funext (exec_jump m)]
    exact counted_perform (fun hS => sim_jump hS m) fun s hc => addsTo_memOp hc (by rintro p rfl; rfl)
  | jumpSub m =>
    rw [funext (exec_jumpSub m)]
    exact counted_perform (fun hS => sim_jumpSub hS m) fun s hc => addsTo_memOp hc (by rintro p rfl; rfl)
  | mul => exact counted_regs 0x3D fun _ => ⟨rfl, rfl, rfl⟩
  | daa => exact counted_regs 0x19 fun _ => ⟨rfl, rfl, rfl⟩
  | sex => exact counted_regs 0x1D fun _ => ⟨rfl, rfl, rfl⟩
  | abx => exact counted_regs 0x3A fun _ => ⟨rfl, rfl, rfl⟩
  | andcc v => exact counted_regs 0x1C fun _ => ⟨rfl, rfl, rfl⟩
  | orcc v => exact counted_regs 0x1A fun _ => ⟨rfl, rfl, rfl⟩
  | tfr r0 r1 => exact counted_noAddend 0x1F fun hS => sim_transfer hS r0 r1
  | exg r0 r1 => exact counted_noAddend 0x1E fun hS => sim_exchange hS r0 r1
  | pshs m => exact counted_perform (fun hS => sim_pushRegs hS .s m) fun s hc => addsTo_stack hc rfl m
  | puls m => exact counted_perform (fun hS => sim_pullRegs hS .s m) fun s hc => addsTo_stack hc rfl m
  | pshu m => exact counted_perform (fun hS => sim_pushRegs hS .u m) fun s hc => addsTo_stack hc rfl m
  | pulu m => exact counted_perform (fun hS => sim_pullRegs hS .u m) fun s hc => addsTo_stack hc rfl m
  | bsr o => exact counted_noAddend 0x8D fun hS => sim_branchSub hS (sext8 o)
  | lbsr o => exact counted_noAddend 0x17 fun hS => sim_branchSub hS o
  | rts => exact counted_noAddend 0x39 fun hS => sim_returnSub hS
  | nop => exact counted_noAddend 0x12 fun hS => .pure hS ()
  | swi => exact counted_noAddend 0x3F fun hS => sim_enter hS .swi
  | swi2 => exact counted_noAddend 0x103F fun hS => sim_enter hS .swi2
  | swi3 => exact counted_noAddend 0x113F fun hS => sim_enter hS .swi3
  | rti => exact counted_perform sim_returnFromInterrupt fun s hc => addsTo_rti hc
  | cwai v => exact counted_noAddend 0x3C fun hS => sim_cwai hS v
  | sync => exact counted_regs 0x13 fun _ => ⟨rfl, rfl, rfl⟩

/-! ### Every step of a core -/

theorem sameCall_wake (s : State) : s.SameCall s.wake := sameCall_modCore s fun _ => rfl

theorem counted_instrStep : Counted instrStep := by
  intro s
  have hfetch := stepRel_sameCall.op sim_fetchInstr s
  cases hrun : fetchInstr s with
  | ok i t =>
    have hsame : s.SameCall t := by rwa [hrun] at hfetch
    obtain ⟨u, d, hexec, hcounts⟩ := counted_exec i t
    exact ⟨u, d, (instrStep_ok hrun).trans hexec, hcounts.after hsame⟩
  | error e t =>
    have hsame : s.SameCall t := by rwa [hrun] at hfetch
    exact ⟨t, 0, instrStep_error hrun, hsame.counts⟩

theorem serviceCycles_le_twenty {s : State} (hc : s.cfg.cycles = mc6809Cycles) (k : Entry) : serviceCycles k s ≤ 20 := by
  unfold serviceCycles
  rw [hc]
  cases k <;> decide

theorem counted_serviceStep (k : Entry) : Counted (serviceStep k) :=
  counted_runOp (fun hS => sim_enter hS k) fun _ hc => serviceCycles_le_twenty hc k

theorem counted_idleStep : Counted idleStep := fun s => ⟨_, _, rfl, {}, fun hc => by rw [hc]; decide⟩

/-- A step of a core answers a next state, and moves neither the host's call nor the cycle lock (60_exceptions.md R419). -/
theorem counted_coreStep : Counted coreStep := by
  have hwake {step : State → Out} (h : Counted step) (s : State) : ∃ t d, step s.wake = .next t ∧ s.Counts t d := by
    obtain ⟨t, d, hstep, hcounts⟩ := h s.wake
    exact ⟨t, d, hstep, hcounts.after (sameCall_wake s)⟩
  intro s
  unfold coreStep
  split
  · unfold runStep
    split
    · exact counted_serviceStep _ s
    · exact counted_instrStep s
  · unfold syncStep
    split
    · exact hwake (counted_serviceStep _) s
    · split
      · exact hwake counted_instrStep s
      · exact counted_idleStep s
  · unfold cwaiStep
    split
    · refine hwake (counted_runOp (fun hS => sim_takeVector hS _) fun s hc => ?_) s
      rw [hc]
      decide
    · exact counted_idleStep s

end Sys2Proof.Machine

namespace Sys2Proof

open Machine

/-- Settles O8: an instruction ends in a next state, and beside the cycles counted none of its parts moves the call. -/
theorem execAlwaysNext : Obligations.ExecAlwaysNext := by
  intro i s
  obtain ⟨t, d, hexec, hcounts⟩ := counted_exec i s
  have hcall := hcounts.sameCall
  exact ⟨t, hexec, hcounts.cfg, hcounts.lock, by simpa using hcall.host, by simpa using hcall.ret,
    by simpa using hcall.soundCarry, by simpa using hcall.firqHackCounter, hcounts.boardTicks⟩

end Sys2Proof
end

section
/-! The host's stepping calls, one agent at a time: the next state of each phase, and the cycles accounted for. -/

namespace Sys2Proof.Machine

/-! ### The step of each phase -/

section
variable {s : State}

/-- A core's step inside a stepping call (60_exceptions.md R405, R419): the call goes on with the cycles counted, or ends
in a fatal condition. -/
theorem stepInCall_counted {b : Board} (go : Nat → State → State) (hactive : s.active = b) : ∃ u d, coreStep s = .next u ∧
    s.Counts u d ∧ stepInCall b go s = .next (if u.fatal = none then go d u else u.finish b none) := by
  obtain ⟨u, d, hstep, hcounts⟩ := counted_coreStep s
  refine ⟨u, d, hstep, hcounts, ?_⟩
  rw [stepInCall, hstep]
  dsimp only
  rw [← hactive, hcounts.used]
  cases u.fatal <;> rfl

theorem step_running (hfatal : s.fatal = none) : step s = runningStep s := by rw [step, hfatal]

theorem step_steps {b : Board} {n done : Nat} (hfatal : s.fatal = none) (hlock : s.lock = .steps b n done) :
    ∃ u d, coreStep s = .next u ∧ s.Counts u d ∧
      step s = .next (if u.fatal = none then u.nextOfSteps b n (done + d) else u.finish b none) := by
  have hactive : s.active = b := by rw [State.active, hlock, Lock.board]
  rw [step_running hfatal, runningStep, hlock]
  exact stepInCall_counted _ hactive

/-- Where the main core's slice leaves the call (R460, R461). -/
def afterMain (call : ExecCall) (want ran : Nat) : Lock :=
  if ran < want then .mainSlice call want ran else .control call ran

/-- Where the sound core's slice leaves the call (R461, R463). -/
def afterSound (call : ExecCall) (budget ran : Nat) : Lock :=
  if ran < budget then .soundSlice call budget ran else .soundEnd call ran

theorem step_mainSlice {call : ExecCall} {want ran : Nat} (hfatal : s.fatal = none)
    (hlock : s.lock = .mainSlice call want ran) : ∃ u d, coreStep s = .next u ∧ s.Counts u d ∧
      step s = .next (if u.fatal = none then u.withLock (afterMain call want (ran + d)) else u.finish .main none) := by
  have hactive : s.active = .main := by rw [State.active, hlock, Lock.board]
  have hgo (d : Nat) (u : State) : u.withLock (afterMain call want (ran + d)) =
      if ran + d < want then u.withLock (.mainSlice call want (ran + d)) else u.withLock (.control call (ran + d)) :=
    apply_ite u.withLock _ _ _
  simp only [hgo]
  rw [step_running hfatal, runningStep, hlock]
  exact stepInCall_counted _ hactive

theorem step_soundSlice {call : ExecCall} {budget ran : Nat} (hfatal : s.fatal = none)
    (hlock : s.lock = .soundSlice call budget ran) : ∃ u d, coreStep s = .next u ∧ s.Counts u d ∧
      step s = .next (if u.fatal = none then u.withLock (afterSound call budget (ran + d)) else u.finish .sound none) := by
  have hactive : s.active = .sound := by rw [State.active, hlock, Lock.board]
  have hgo (d : Nat) (u : State) : u.withLock (afterSound call budget (ran + d)) =
      if ran + d < budget then u.withLock (.soundSlice call budget (ran + d))
      else u.withLock (.soundEnd call (ran + d)) := apply_ite u.withLock _ _ _
  simp only [hgo]
  rw [step_running hfatal, runningStep, hlock]
  exact stepInCall_counted _ hactive

/-- The state phase 2 leaves, but for the place in the call: the ticks counted, the controller advanced, the clock scaled
(R460 to R462). -/
def State.controlled (s : State) (n : Nat) : State :=
  (State.advance { s with boardTicks := s.boardTicks + n } n).carrySound n

/-- The call with more ticks executed. -/
def ExecCall.more (call : ExecCall) (n : Nat) : ExecCall := { call with executed := call.executed + n }

/-- The budget is that of the state before: the controller does not move the carry. -/
theorem soundBudget_advance (s : State) (n : Nat) :
    (State.advance { s with boardTicks := s.boardTicks + n } n).soundBudget n = s.soundBudget n :=
  State.advance_keeps (g := fun u => u.soundBudget n) (fun _ => rfl) (fun _ _ => rfl) _ _

theorem step_control {call : ExecCall} {n : Nat} (hfatal : s.fatal = none) (hlock : s.lock = .control call n) :
    step s = if ticksOk s.cfg then
      .next (if 0 < s.soundBudget n then (s.controlled n).withLock (.soundSlice (call.more n) (s.soundBudget n) 0)
        else (s.controlled n).atHead (call.more n))
    else .refused .configRefused := by
  rw [step_running hfatal, runningStep, hlock, ← soundBudget_advance]
  rfl

theorem step_soundEnd {call : ExecCall} {n : Nat} (hfatal : s.fatal = none) (hlock : s.lock = .soundEnd call n) :
    step s = if ticksOk s.cfg then .next ((s.endSound n).atHead call) else .refused .configRefused := by
  rw [step_running hfatal, runningStep, hlock]
  rfl

theorem hostCall_executeCycles {total perStep : Nat} (hper : 1 ≤ perStep) :
    hostCall (.executeCycles total perStep) s = .next (s.atHead ⟨total, perStep, 0⟩) :=
  if_neg (Nat.not_lt.mpr hper)

end

/-- The call `step()` is one step of its core, and its result the cycles counted (R419). -/
theorem stepCall_counted (b : Board) (s : State) : ∃ u d, coreStep (s.withLock (.idle b)) = .next u ∧
    (s.withLock (.idle b)).Counts u d ∧ (u.coreOf b).tickCount = (s.coreOf b).tickCount + d ∧
      stepCall b s = .next { u with ret := some d } := by
  obtain ⟨u, d, hcore, hcounts⟩ := counted_coreStep (s.withLock (.idle b))
  have hticks : (u.coreOf b).tickCount = (s.coreOf b).tickCount + d :=
    (hcounts.ticks_own (b := b) rfl).trans (by cases b <;> rfl)
  refine ⟨u, d, hcore, hcounts, hticks, ?_⟩
  rw [stepCall, hcore]
  simp only [used, hticks, Nat.add_sub_cancel_left]

/-! ### What a step accounts for -/

/-- What a step inside `executeCycles` that leaves `t` accounts for: while the call goes on, the main core's cycles and the
ticks of the call, the board's ticks and the ticks executed; at its end, all of them with the result (R460, R465). -/
def State.Accounts (s t : State) (call : ExecCall) : Prop :=
  (∀ call', t.lock.call = some call' →
    call'.total = call.total ∧ s.main.core.tickCount + t.lock.ticks = t.main.core.tickCount + s.lock.ticks ∧
      s.boardTicks + call'.executed = t.boardTicks + call.executed) ∧
  (t.lock.call = none → ∃ r, t.lock = .idle .main ∧ t.ret = some r ∧ call.total ≤ r ∧
    s.main.core.tickCount + r = t.main.core.tickCount + s.lock.ticks ∧ s.boardTicks + r = t.boardTicks + call.executed ∧
    (s.cfg.cycles = Config.mc6809Cycles → s.lock.bounded → r < call.total + 20))

section
variable {s t u : State} {call call' : ExecCall}

/-- The call goes on at another place. -/
theorem accounts_withLock {l : Lock} (hcall : l.call = some call') (htotal : call'.total = call.total)
    (hmain : s.main.core.tickCount + l.ticks = u.main.core.tickCount + s.lock.ticks)
    (hboard : s.boardTicks + call'.executed = u.boardTicks + call.executed) : s.Accounts (u.withLock l) call := by
  refine ⟨fun c hc => ?_, fun hnone => nomatch hcall.symm.trans hnone⟩
  cases hcall.symm.trans hc
  exact ⟨htotal, hmain, hboard⟩

/-- The call is at its loop head, where it goes on or ends with the ticks executed. -/
theorem accounts_atHead (htotal : call'.total = call.total)
    (hmain : s.main.core.tickCount + call'.executed = u.main.core.tickCount + s.lock.ticks)
    (hboard : s.boardTicks + call'.executed = u.boardTicks + call.executed)
    (hbound : s.lock.bounded → call'.executed < call.total + 20) : s.Accounts (u.atHead call') call := by
  unfold State.atHead
  split
  · exact accounts_withLock rfl htotal hmain hboard
  · next hend =>
    exact ⟨nofun, fun _ => ⟨call'.executed, rfl, rfl, by omega, hmain, hboard, fun _ => hbound⟩⟩

theorem State.controlled_tickCount (s : State) (n : Nat) :
    (s.controlled n).main.core.tickCount = s.main.core.tickCount :=
  State.advance_keeps (g := fun u => u.main.core.tickCount) (fun _ => rfl) (fun _ _ => rfl) _ _

theorem State.controlled_boardTicks (s : State) (n : Nat) : (s.controlled n).boardTicks = s.boardTicks + n :=
  State.advance_keeps (g := fun u => u.boardTicks) (fun _ => rfl) (fun _ _ => rfl) _ _

theorem State.endSound_tickCount (s : State) (n : Nat) : (s.endSound n).main.core.tickCount = s.main.core.tickCount :=
  State.endSound_keeps (g := fun u => u.main.core.tickCount) (fun _ => rfl) (fun _ _ _ => rfl) _ _

theorem State.endSound_boardTicks (s : State) (n : Nat) : (s.endSound n).boardTicks = s.boardTicks :=
  State.endSound_keeps (g := fun u => u.boardTicks) (fun _ => rfl) (fun _ _ _ => rfl) _ _

/-- A step that did not end in a fatal condition. -/
theorem not_fatal_of_next {p q : State} (h : .next t = (Host.Outcome.next (if u.fatal = none then p else q) : Out))
    (hq : q.fatal = u.fatal) (hfatal : t.fatal = none) : t = p := by
  rw [Host.Outcome.next.injEq] at h
  split at h
  · exact h
  · next hu => exact absurd (hq.symm.trans (h ▸ hfatal)) hu

theorem afterMain_call (call : ExecCall) (want ran : Nat) : (afterMain call want ran).call = some call := by
  unfold afterMain
  split <;> rfl

theorem afterMain_ticks (call : ExecCall) (want ran : Nat) : (afterMain call want ran).ticks = call.executed + ran := by
  unfold afterMain
  split <;> rfl

theorem afterSound_call (call : ExecCall) (budget ran : Nat) : (afterSound call budget ran).call = some call := by
  unfold afterSound
  split <;> rfl

theorem afterSound_ticks (call : ExecCall) (budget ran : Nat) : (afterSound call budget ran).ticks = call.executed := by
  unfold afterSound
  split <;> rfl

theorem accounts_mainSlice {want ran : Nat} (hfatal : s.fatal = none) (hnext : t.fatal = none)
    (hlock : s.lock = .mainSlice call want ran) (hstep : step s = .next t) : s.Accounts t call := by
  obtain ⟨u, d, -, hcounts, hu⟩ := step_mainSlice hfatal hlock
  obtain rfl := not_fatal_of_next (hstep.symm.trans hu) rfl hnext
  have hmain : u.main.core.tickCount = s.main.core.tickCount + d :=
    hcounts.ticks_own (b := .main) (by rw [State.active, hlock, Lock.board])
  refine accounts_withLock (afterMain_call ..) rfl ?_ (by rw [hcounts.boardTicks])
  rw [afterMain_ticks, hmain, hlock, Lock.ticks]
  omega

theorem accounts_control {n : Nat} (hfatal : s.fatal = none) (hlock : s.lock = .control call n)
    (hstep : step s = .next t) : s.Accounts t call := by
  have hmain : s.main.core.tickCount + (call.more n).executed =
      (s.controlled n).main.core.tickCount + s.lock.ticks := by
    rw [State.controlled_tickCount, hlock, Lock.ticks, ExecCall.more]
  have hboard : s.boardTicks + (call.more n).executed = (s.controlled n).boardTicks + call.executed := by
    rw [State.controlled_boardTicks, ExecCall.more, Nat.add_assoc, Nat.add_comm n]
  rw [step_control hfatal hlock] at hstep
  split at hstep
  · cases hstep
    split
    · exact accounts_withLock rfl rfl hmain hboard
    · refine accounts_atHead rfl hmain hboard fun hbounded => ?_
      rw [hlock] at hbounded
      exact hbounded.2
  · cases hstep

theorem accounts_soundSlice {budget ran : Nat} (hfatal : s.fatal = none) (hnext : t.fatal = none)
    (hlock : s.lock = .soundSlice call budget ran) (hstep : step s = .next t) : s.Accounts t call := by
  obtain ⟨u, d, -, hcounts, hu⟩ := step_soundSlice hfatal hlock
  obtain rfl := not_fatal_of_next (hstep.symm.trans hu) rfl hnext
  have hmain : u.main.core.tickCount = s.main.core.tickCount :=
    hcounts.ticks_other (b := .main) (by rw [State.active, hlock, Lock.board]; exact nofun)
  refine accounts_withLock (afterSound_call ..) rfl ?_ (by rw [hcounts.boardTicks])
  rw [afterSound_ticks, hmain, hlock, Lock.ticks]

theorem accounts_soundEnd {n : Nat} (hfatal : s.fatal = none) (hlock : s.lock = .soundEnd call n)
    (hstep : step s = .next t) : s.Accounts t call := by
  rw [step_soundEnd hfatal hlock] at hstep
  split at hstep
  · cases hstep
    refine accounts_atHead rfl ?_ (by rw [State.endSound_boardTicks]) fun hbounded => ?_
    · rw [State.endSound_tickCount, hlock, Lock.ticks]
    · rw [hlock] at hbounded
      exact hbounded.2
  · cases hstep

/-- Whichever agent steps, the cycles and the ticks it adds are accounted for. -/
theorem accounts_step (hfatal : s.fatal = none) (hnext : t.fatal = none) (hcall : s.lock.call = some call)
    (hstep : step s = .next t) : s.Accounts t call := by
  cases hlock : s.lock <;> rw [hlock] at hcall <;> cases hcall
  case mainSlice => exact accounts_mainSlice hfatal hnext hlock hstep
  case control => exact accounts_control hfatal hlock hstep
  case soundSlice => exact accounts_soundSlice hfatal hnext hlock hstep
  case soundEnd => exact accounts_soundEnd hfatal hlock hstep

end

/-! ### The bound of the call -/

section
variable {s t : State}

/-- Outside `executeCycles` there is no bound. -/
theorem bounded_of_call_eq_none {l : Lock} (h : l.call = none) : l.bounded := by
  cases l
  case idle | steps => trivial
  all_goals cases h

/-- At the loop head a slice asks for no more ticks than are left. -/
theorem bounded_atHead (s : State) {call : ExecCall} (hper : 1 ≤ call.perStep) : (s.atHead call).lock.bounded := by
  unfold State.atHead
  split
  · exact ⟨hper, by omega, by omega⟩
  · trivial

theorem bounded_nextOfSteps (s : State) (b : Board) (n done : Nat) : (s.nextOfSteps b n done).lock.bounded := by
  unfold State.nextOfSteps
  split <;> trivial

/-- A slice stops short of its ticks until its last step, which takes at most 20 cycles (R465). -/
theorem bounded_afterMain {call : ExecCall} {want ran d : Nat} (h : (Lock.mainSlice call want ran).bounded) (hd : d ≤ 20) :
    (afterMain call want (ran + d)).bounded := by
  obtain ⟨hper, hran, hwant⟩ := h
  unfold afterMain
  split
  · exact ⟨hper, ‹_›, hwant⟩
  · exact ⟨hper, by omega⟩

theorem bounded_afterSound {call : ExecCall} {budget ran d : Nat} (h : (Lock.soundSlice call budget ran).bounded) :
    (afterSound call budget (ran + d)).bounded := by
  unfold afterSound
  split <;> exact h

theorem hostBus_lock {α : Type} {m : Op α} (hsame : s.SameCall (after (m s))) (h : hostBus m s = .next t) :
    t.lock = s.lock := by
  unfold hostBus at h
  cases hm : m s <;> rw [hm] at h hsame <;> cases h <;> exact hsame.lock

/-- A call made between stepping calls leaves no call in progress, or begins one that keeps the bound. -/
theorem bounded_hostCall {k : HostCall} (hidle : s.lock.call = none) (hcall : hostCall k s = .next t) :
    t.lock.bounded := by
  have hkept (hlock : t.lock = s.lock) : t.lock.bounded := bounded_of_call_eq_none (by rw [hlock, hidle])
  cases k with
  | irq b | firq b | clearIrqMasking b =>
    cases hcall
    exact hkept (s.setCoreOf_lock b _)
  | nmi b =>
    rw [hostCall] at hcall
    split at hcall
    · cases hcall
      exact hkept (s.setCoreOf_lock b _)
    · cases hcall
  | reset | setDirectInput row v | setCabinetInput bitmask =>
    cases hcall
    exact hkept rfl
  | resetBoard b =>
    cases hcall
    exact hkept (by cases b <;> rfl)
  | step b =>
    obtain ⟨u, d, -, hcounts, -, hu⟩ := stepCall_counted b s
    rw [hostCall, hu] at hcall
    cases hcall
    exact bounded_of_call_eq_none (congrArg Lock.call hcounts.lock)
  | steps b n =>
    cases hcall
    exact bounded_nextOfSteps s b n 0
  | executeCycles total perStep =>
    by_cases hper : 1 ≤ perStep
    · rw [hostCall_executeCycles hper] at hcall
      cases hcall
      exact bounded_atHead s hper
    · rw [hostCall, if_pos (Nat.lt_of_not_le hper)] at hcall
      cases hcall
  | advance n =>
    rw [hostCall] at hcall
    split at hcall
    · cases hcall
      exact hkept (State.advance_keeps (g := State.lock) (fun _ => rfl) (fun _ _ => rfl) _ _)
    · cases hcall
  | busRead b a => exact hkept (hostBus_lock (sameCall_busRead b a s) hcall)
  | busWrite b a v => exact hkept (hostBus_lock (sameCall_busWrite b a v s) hcall)

/-- A step of a core inside a call keeps the bound when the place it goes on at does; a fatal condition ends the call. -/
theorem bounded_of_next {u p : State} {b : Board}
    (h : .next t = (Host.Outcome.next (if u.fatal = none then p else u.finish b none) : Out)) (hp : p.lock.bounded) :
    t.lock.bounded := by
  cases h
  split
  · exact hp
  · trivial

/-- Whichever agent steps, the place in the call keeps its bound. -/
theorem bounded_step (hcycles : s.cfg.cycles = Config.mc6809Cycles) (hfatal : s.fatal = none) (hbounded : s.lock.bounded)
    (hstep : step s = .next t) : t.lock.bounded := by
  cases hlock : s.lock with
  | idle focus =>
    have hidle : s.lock.call = none := congrArg Lock.call hlock
    cases hhost : s.host with
    | cons k ks =>
      rw [step_hostCall hfatal hlock hhost] at hstep
      exact bounded_hostCall (s := { s with host := ks }) hidle hstep
    | nil =>
      obtain ⟨u, d, hcore, hcounts⟩ := counted_coreStep s
      rw [step_running hfatal, runningStep, hlock] at hstep
      simp only [idleMachineStep, hhost, hcore] at hstep
      cases hstep
      exact bounded_of_call_eq_none (by rw [hcounts.lock, hidle])
  | steps b n done =>
    obtain ⟨u, d, -, -, hu⟩ := step_steps hfatal hlock
    exact bounded_of_next (hstep.symm.trans hu) (bounded_nextOfSteps u b n _)
  | mainSlice call want ran =>
    obtain ⟨u, d, -, hcounts, hu⟩ := step_mainSlice hfatal hlock
    rw [hlock] at hbounded
    exact bounded_of_next (hstep.symm.trans hu) (bounded_afterMain hbounded (hcounts.le_twenty hcycles))
  | soundSlice call budget ran =>
    obtain ⟨u, d, -, -, hu⟩ := step_soundSlice hfatal hlock
    rw [hlock] at hbounded
    exact bounded_of_next (hstep.symm.trans hu) (bounded_afterSound hbounded)
  | control call n =>
    rw [hlock] at hbounded
    obtain ⟨hper, hexecuted⟩ := hbounded
    rw [step_control hfatal hlock] at hstep
    split at hstep
    · cases hstep
      split
      · exact ⟨hper, hexecuted⟩
      · exact bounded_atHead _ hper
    · cases hstep
  | soundEnd call n =>
    rw [hlock] at hbounded
    obtain ⟨hper, -⟩ := hbounded
    rw [step_soundEnd hfatal hlock] at hstep
    split at hstep
    · cases hstep
      exact bounded_atHead _ hper
    · cases hstep

end

end Sys2Proof.Machine

namespace Sys2Proof

open Machine

/-- Settles O51: the two slices are a core's step, the other two phases the controller's and the end of the sub-step. -/
theorem subStepOrder : Obligations.SubStepOrder := by
  intro s hfatal
  refine ⟨fun call want ran hlock => ?_, fun call n hlock hticks => ?_, fun call budget ran hlock => ?_,
    fun call n hlock hticks => ?_⟩
  · obtain ⟨u, d, hcore, hcounts, hstep⟩ := step_mainSlice hfatal hlock
    exact ⟨u, d, hcore, hcounts.ticks_own (b := .main) (by rw [State.active, hlock, Lock.board]), hstep⟩
  · rw [step_control hfatal hlock, if_pos hticks]
    rfl
  · obtain ⟨u, d, hcore, hcounts, hstep⟩ := step_soundSlice hfatal hlock
    exact ⟨u, d, hcore, hcounts.ticks_own (b := .sound) (by rw [State.active, hlock, Lock.board]), hstep⟩
  · rw [step_soundEnd hfatal hlock, if_pos hticks]

/-- Settles O50: the step that ends `steps(n)` starts short of `n` and takes at most 20 cycles. -/
theorem stepsReturn : Obligations.StepsReturn := by
  refine ⟨fun s t b n done hcycles hfatal hlock hdone hstep => ?_, fun s b focus ks hfatal hlock =>
    ⟨fun n hhost => ?_, fun hhost => ?_⟩⟩
  · obtain ⟨u, d, -, hcounts, hnext⟩ := step_steps hfatal hlock
    have hd := hcounts.le_twenty hcycles
    rw [hstep, Host.Outcome.next.injEq] at hnext
    subst hnext
    split
    · rw [State.nextOfSteps]
      split
      · exact .inr (.inl ⟨done + d, rfl, ‹_›⟩)
      · exact .inr (.inr ⟨done + d, rfl, rfl, by omega, by omega⟩)
    · exact .inl ‹_›
  · rw [step_hostCall hfatal hlock hhost, hostCall, State.nextOfSteps]
    split <;> rfl
  · obtain ⟨u, d, hcore, -, hticks, hcall⟩ := stepCall_counted b { s with host := ks }
    refine ⟨u, d, hcore, hticks.trans (by cases b <;> rfl), ?_⟩
    rw [step_hostCall hfatal hlock hhost, hostCall, hcall]

/-- Settles O52: step by step the books agree and the bound is kept. -/
theorem executeCyclesAccounts : Obligations.ExecuteCyclesAccounts := by
  refine ⟨fun _ _ _ => accounts_step, fun _ _ => bounded_step, fun s focus total perStep ks hfatal hlock hhost => ?_⟩
  rw [step_hostCall hfatal hlock hhost]
  refine ⟨hostCall_executeCycles, fun hzero => ?_⟩
  rw [hostCall, if_pos (by omega)]

end Sys2Proof
end
